-- ==== Sys2Proof/Word.lean ====
section
/-! DEFINITION. The words of the ZP-HASH core: bytes, 32-bit register words, 64-bit columns, byte arrays
(00_scope.md R7, R8). -/

namespace Sys2Proof

/-- A byte, an unsigned 8-bit value (00_scope.md R7). -/
abbrev Byte := BitVec 8

/-- A host-port data word or a command word (10_state.md R101, 30_encoding.md R300). -/
abbrev Word := BitVec 32

/-- A 64-bit unsigned value: MLEN (10_state.md R113) or a state column as an integer (00_scope.md R7). -/
abbrev Word64 := BitVec 64

/-- A 10-bit byte address of the host register space (20_memory.md R200). -/
abbrev Addr := BitVec 10

/-- A 128-byte register array: STATE or BLOCK, column-major (00_scope.md R8, 10_state.md R114, R115). -/
abbrev Buf := Vector Byte 128

end Sys2Proof
end

