-- ==== Sys2Proof/Syntax.lean ====
section
/-! DEFINITION. The 22 commands of the ZPH-1 command set (30_encoding.md R303), one constructor per row of
spec/opcode_table.json. An operand has exactly the width of its field (R300, R302). -/

namespace Sys2Proof

inductive Instr where
  /-- NOP (43_hash_control.md R460). -/
  | nop
  /-- SRESET (43_hash_control.md R461). -/
  | sreset
  /-- CLRERR (43_hash_control.md R462). -/
  | clrerr
  /-- INIT d, d the digest size in bits (43_hash_control.md R463). -/
  | init (d : BitVec 16)
  /-- ABSORB (43_hash_control.md R465). -/
  | absorb
  /-- FINAL n, n the number of tail bytes in BLOCK (43_hash_control.md R467). -/
  | final (n : Byte)
  /-- GFMUL x, y (40_gf_sbox.md R403). -/
  | gfmul (x y : Byte)
  /-- GFTAB x, y (40_gf_sbox.md R404). -/
  | gftab (x y : Byte)
  /-- SBOX t, x (40_gf_sbox.md R406). -/
  | sbox (t x : Byte)
  /-- SUBB (41_round_layers.md R411). -/
  | subb
  /-- SHIFTR (41_round_layers.md R414). -/
  | shiftr
  /-- MIXC (41_round_layers.md R417). -/
  | mixc
  /-- ADDRCP r (41_round_layers.md R419). -/
  | addrcp (r : Byte)
  /-- ADDRCQ r (41_round_layers.md R421). -/
  | addrcq (r : Byte)
  /-- ROUNDP r (41_round_layers.md R423). -/
  | roundp (r : Byte)
  /-- ROUNDQ r (41_round_layers.md R424). -/
  | roundq (r : Byte)
  /-- PERMP (42_permutations_compression.md R442). -/
  | permp
  /-- PERMQ (42_permutations_compression.md R443). -/
  | permq
  /-- XORB (42_permutations_compression.md R444). -/
  | xorb
  /-- TCOMP (42_permutations_compression.md R446). -/
  | tcomp
  /-- OUTT (42_permutations_compression.md R448). -/
  | outt
  /-- TRUNC (42_permutations_compression.md R450). -/
  | trunc
  deriving DecidableEq, Repr

end Sys2Proof
end

