-- ==== Sys2Proof/Decode.lean ====
section
/-! DEFINITION. Decoding and encoding of the 32-bit command word (30_encoding.md R300-R307). -/

namespace Sys2Proof

/-- The six formats (30_encoding.md R301). -/
inductive Format where
  | N | D | L | BB | TB | R
  deriving DecidableEq, Repr

/-- Why a word is no command (30_encoding.md R306); both carry OP = w[31:24]. -/
inductive DecodeError where
  /-- OP is not in the opcode map (30_encoding.md R305). -/
  | illegalOpcode (op : Byte)
  /-- OP is in the map and a must-be-zero field of its format is not zero (30_encoding.md R304). -/
  | reservedField (op : Byte)
  deriving DecidableEq, Repr

/-- OP, w[31:24] (30_encoding.md R300). -/
def opField (w : Word) : Byte := w.extractLsb' 24 8

/-- A, w[23:16] (30_encoding.md R300). -/
def aField (w : Word) : Byte := w.extractLsb' 16 8

/-- B, w[15:8] (30_encoding.md R300). -/
def bField (w : Word) : Byte := w.extractLsb' 8 8

/-- C, w[7:0] (30_encoding.md R300). -/
def cField (w : Word) : Byte := w.extractLsb' 0 8

/-- D16, w[15:0] (30_encoding.md R300). -/
def d16Field (w : Word) : BitVec 16 := w.extractLsb' 0 16

/-- The opcode of a command (30_encoding.md R303). -/
def opcodeOf : Instr → Byte
  | .nop => 0x00
  | .sreset => 0x01
  | .clrerr => 0x02
  | .init _ => 0x10
  | .absorb => 0x11
  | .final _ => 0x12
  | .gfmul _ _ => 0x20
  | .gftab _ _ => 0x21
  | .sbox _ _ => 0x22
  | .subb => 0x30
  | .shiftr => 0x31
  | .mixc => 0x32
  | .addrcp _ => 0x33
  | .addrcq _ => 0x34
  | .roundp _ => 0x35
  | .roundq _ => 0x36
  | .permp => 0x40
  | .permq => 0x41
  | .xorb => 0x42
  | .tcomp => 0x43
  | .outt => 0x44
  | .trunc => 0x45

/-- The format of a command (30_encoding.md R303). -/
def formatOf : Instr → Format
  | .init _ => .D
  | .final _ => .L
  | .gfmul _ _ | .gftab _ _ => .BB
  | .sbox _ _ => .TB
  | .addrcp _ | .addrcq _ | .roundp _ | .roundq _ => .R
  | .nop | .sreset | .clrerr | .absorb | .subb | .shiftr | .mixc
  | .permp | .permq | .xorb | .tcomp | .outt | .trunc => .N

/-- The mask of fixed bits of a format: the opcode and the must-be-zero fields (30_encoding.md R301). -/
def formatMask : Format → Word
  | .N => 0xFFFFFFFF
  | .D => 0xFFFF0000
  | .L => 0xFFFFFF00
  | .BB => 0xFF0000FF
  | .TB => 0xFF0000FF
  | .R => 0xFF00FFFF

/-- The word whose fields OP, A, B, C are these (30_encoding.md R300). -/
def packWord (op a b c : Byte) : Word := op ++ a ++ b ++ c

/-- The opcode map applied to w: the command OP selects, with its operands taken from w by the format
(30_encoding.md R301, R302, R303); none for the 234 opcodes of R305. -/
def commandAt (w : Word) : Option Instr :=
  match (opField w).toNat with
  | 0x00 => some .nop
  | 0x01 => some .sreset
  | 0x02 => some .clrerr
  | 0x10 => some (.init (d16Field w))
  | 0x11 => some .absorb
  | 0x12 => some (.final (cField w))
  | 0x20 => some (.gfmul (aField w) (bField w))
  | 0x21 => some (.gftab (aField w) (bField w))
  | 0x22 => some (.sbox (aField w) (bField w))
  | 0x30 => some .subb
  | 0x31 => some .shiftr
  | 0x32 => some .mixc
  | 0x33 => some (.addrcp (aField w))
  | 0x34 => some (.addrcq (aField w))
  | 0x35 => some (.roundp (aField w))
  | 0x36 => some (.roundq (aField w))
  | 0x40 => some .permp
  | 0x41 => some .permq
  | 0x42 => some .xorb
  | 0x43 => some .tcomp
  | 0x44 => some .outt
  | 0x45 => some .trunc
  | _ => none

/-- The decoder, total on every 32-bit word (30_encoding.md R306). -/
def decode (w : Word) : Except DecodeError Instr :=
  match commandAt w with
  | none => .error (.illegalOpcode (opField w))
  | some i =>
    if w &&& formatMask (formatOf i) = packWord (opField w) 0 0 0 then .ok i
    else .error (.reservedField (opField w))

/-- The word of a command (30_encoding.md R301, R303, R307). -/
def encode : Instr → Word
  | .init d => packWord (opcodeOf (.init d)) 0 (d.extractLsb' 8 8) (d.extractLsb' 0 8)
  | .final n => packWord (opcodeOf (.final n)) 0 0 n
  | .gfmul x y => packWord (opcodeOf (.gfmul x y)) x y 0
  | .gftab x y => packWord (opcodeOf (.gftab x y)) x y 0
  | .sbox t x => packWord (opcodeOf (.sbox t x)) t x 0
  | .addrcp r => packWord (opcodeOf (.addrcp r)) r 0 0
  | .addrcq r => packWord (opcodeOf (.addrcq r)) r 0 0
  | .roundp r => packWord (opcodeOf (.roundp r)) r 0 0
  | .roundq r => packWord (opcodeOf (.roundq r)) r 0 0
  | .nop => packWord (opcodeOf .nop) 0 0 0
  | .sreset => packWord (opcodeOf .sreset) 0 0 0
  | .clrerr => packWord (opcodeOf .clrerr) 0 0 0
  | .absorb => packWord (opcodeOf .absorb) 0 0 0
  | .subb => packWord (opcodeOf .subb) 0 0 0
  | .shiftr => packWord (opcodeOf .shiftr) 0 0 0
  | .mixc => packWord (opcodeOf .mixc) 0 0 0
  | .permp => packWord (opcodeOf .permp) 0 0 0
  | .permq => packWord (opcodeOf .permq) 0 0 0
  | .xorb => packWord (opcodeOf .xorb) 0 0 0
  | .tcomp => packWord (opcodeOf .tcomp) 0 0 0
  | .outt => packWord (opcodeOf .outt) 0 0 0
  | .trunc => packWord (opcodeOf .trunc) 0 0 0

/-- What the decoder reads from an instruction whose bits are w, bit 0 the least significant (the host's numbering).
Every command is one 32-bit word (30_encoding.md R300), so bits above nbits are 0. -/
def decodeTableWord (nbits w : Nat) : Option Instr :=
  (decode (BitVec.ofNat 32 (w % 2 ^ nbits))).toOption

/-- An assembler operand that must fit a field of k bits: none is an assembly error (30_encoding.md R307). -/
def asmOperand (k n : Nat) : Option (BitVec k) :=
  if n < 2 ^ k then some (BitVec.ofNat k n) else none

/-- The assembler: a mnemonic and its operands in the order of R301 (30_encoding.md R307). An operand that fits its
field and fails its range check assembles. -/
def assemble : String → List Nat → Option Instr
  | "NOP", [] => some .nop
  | "SRESET", [] => some .sreset
  | "CLRERR", [] => some .clrerr
  | "INIT", [d] => (asmOperand 16 d).map .init
  | "ABSORB", [] => some .absorb
  | "FINAL", [n] => (asmOperand 8 n).map .final
  | "GFMUL", [x, y] => (asmOperand 8 x).bind fun x => (asmOperand 8 y).map fun y => .gfmul x y
  | "GFTAB", [x, y] => (asmOperand 8 x).bind fun x => (asmOperand 8 y).map fun y => .gftab x y
  | "SBOX", [t, x] => (asmOperand 8 t).bind fun t => (asmOperand 8 x).map fun x => .sbox t x
  | "SUBB", [] => some .subb
  | "SHIFTR", [] => some .shiftr
  | "MIXC", [] => some .mixc
  | "ADDRCP", [r] => (asmOperand 8 r).map .addrcp
  | "ADDRCQ", [r] => (asmOperand 8 r).map .addrcq
  | "ROUNDP", [r] => (asmOperand 8 r).map .roundp
  | "ROUNDQ", [r] => (asmOperand 8 r).map .roundq
  | "PERMP", [] => some .permp
  | "PERMQ", [] => some .permq
  | "XORB", [] => some .xorb
  | "TCOMP", [] => some .tcomp
  | "OUTT", [] => some .outt
  | "TRUNC", [] => some .trunc
  | _, _ => none

end Sys2Proof
end

