-- ==== Sys2Proof/Config.lean ====
section
/-! DEFINITION. What an implementation fixes and the spec leaves open: opaque values, none of which has a body that
a proof could see. -/

namespace Sys2Proof

/-- How many model steps MORE THAN ONE the command word keeps STATUS.BUSY at 1, for the draw with this number
(70_reset_and_hazards.md R704: `Latency(w, state) >= 1` is an open parameter).
UNVERIFIED value, safe: nothing is known of it (log 3). -/
opaque Config.extraLatency : Word → Nat → Nat

/-- What a host read of a register other than STATUS returns while BUSY = 1, for the draw with this number
(70_reset_and_hazards.md R706: any 32-bit value). Safe (log 4). -/
opaque Config.busyRead : Nat → Word

/-- The value of a state element before the first hard reset, by the element's number in `State.powerOn`
(70_reset_and_hazards.md R702: unspecified, a draw). Safe (log 5). -/
opaque Config.powerOnValue : Nat → Word64

/-- What a command sees outside a byte array, at this index: past its end, or before its start (a negative index). It is
asked for only when CONFIG holds a value that 10_state.md R111 does not list, which no reset, no INIT and no other
command leaves. DESIGN CHOICE, unsafe for claims about commands run before the first hard reset (log 6). -/
opaque Config.absentByte : Int → Byte

end Sys2Proof
end

