-- ==== Sys2Proof/Machine/State.lean ====
section
/-! DEFINITION. The state of the ZP-HASH core and of its host port as plain data (10_state.md), its reset value
(R121), its power-on value (70_reset_and_hazards.md R702), and the reasons a step can stop. -/

namespace Sys2Proof.Machine

/-- The latched command (10_state.md R104, R120): its word, and how many model steps it still keeps BUSY at 1
(70_reset_and_hazards.md R704). The step at which `left` is 1 is its completion step. -/
structure Pending where
  word : Word
  left : Nat
  deriving DecidableEq, Repr

/-- CONFIG's fields (10_state.md R111); its reserved bits are not stored and read as 0. -/
structure ContextReg where
  dbits : BitVec 10
  rounds : BitVec 4
  cols : BitVec 5
  deriving DecidableEq, Repr

/-- A host-port response (20_memory.md R202). -/
inductive Resp where
  | okay | slverr
  deriving DecidableEq, Repr

/-- What the host port answered to one access (20_memory.md R202). -/
inductive Response where
  | ofRead (resp : Resp) (data : Word)
  | ofWrite (resp : Resp)
  deriving DecidableEq, Repr

/-- What the outside does next: a host access (20_memory.md R202), one turn of the WAIT loop (30_encoding.md R308),
nothing for one step, or a hard reset (70_reset_and_hazards.md R700). -/
inductive HostOp where
  | read (a : Addr)
  | write (a : Addr) (v : Word)
  | wait
  | idle
  | hardReset
  deriving DecidableEq, Repr

/-- A mapped register word of the host register space (10_state.md R101); q is the word's number in its array. -/
inductive HostReg where
  | id | cmd | status | config | result | mlenLo | mlenHi
  | block (q : Nat) | state (q : Nat) | digest (q : Nat)
  deriving DecidableEq, Repr

/-- The error causes of 60_exceptions.md R600. -/
inductive ErrorCode where
  | illegalOpcode | reservedField | badSboxIndex | badDigestBits
  | notConfigured | alreadyFinalized | badTailLength | lengthOverflow
  deriving DecidableEq, Repr

/-- Every element of state the spec names (10_state.md), then the model's own three fields. -/
structure State where
  /-- The pending command; STATUS.BUSY is 1 exactly while there is one (R104, R106, R120). -/
  pending : Option Pending
  /-- STATUS.CFG (R107). -/
  cfg : Bool
  /-- STATUS.FIN (R108). -/
  fin : Bool
  /-- STATUS.ERR (R109). -/
  err : Bool
  /-- STATUS.OVR (R110). -/
  ovr : Bool
  /-- STATUS.ERRCODE (R105, R109). -/
  errcode : BitVec 4
  /-- STATUS.ERROP (R105, R109). -/
  errop : Byte
  /-- CONFIG (R111). -/
  config : ContextReg
  /-- RESULT[7:0]; RESULT[31:8] read as 0 (R112). -/
  result : Byte
  /-- MLEN (R113). -/
  mlen : Word64
  /-- BLOCK[0..127] (R114). -/
  block : Buf
  /-- STATE[0..127] (R115). -/
  state : Buf
  /-- DIGEST[0..63] (R116). -/
  digest : Vector Byte 64
  /-- The model's own: what the host and the outside will still do, first first (log 1). -/
  host : List HostOp
  /-- The model's own: the port's responses so far, newest first (log 7). -/
  trace : List Response
  /-- The model's own: how many free values have been drawn (log 3, log 4). -/
  draws : Nat
  deriving DecidableEq, Repr

/-- The machine right after a hard reset (10_state.md R121), with nothing for the host to do.
DESIGN CHOICE, unsafe for a claim about the one run from here: `host`, `trace` and `draws` are the model's own and start
empty (log 8). -/
def State.reset : State where
  pending := none
  cfg := false
  fin := false
  err := false
  ovr := false
  errcode := 0
  errop := 0
  config := { dbits := 0, rounds := 0, cols := 0 }
  result := 0
  mlen := 0
  block := Vector.replicate 128 0
  state := Vector.replicate 128 0
  digest := Vector.replicate 64 0
  host := []
  trace := []
  draws := 0

/-- The machine before the first hard reset after power-on: every element a draw, BUSY included
(70_reset_and_hazards.md R702; log 5). The host's operations are whatever the outside does. -/
def State.powerOn (host : List HostOp) : State where
  pending :=
    if (Config.powerOnValue 0).getLsbD 0 then
      some { word := (Config.powerOnValue 1).setWidth 32, left := (Config.powerOnValue 2).toNat + 1 }
    else none
  cfg := (Config.powerOnValue 0).getLsbD 1
  fin := (Config.powerOnValue 0).getLsbD 2
  err := (Config.powerOnValue 0).getLsbD 3
  ovr := (Config.powerOnValue 0).getLsbD 4
  errcode := (Config.powerOnValue 3).setWidth 4
  errop := (Config.powerOnValue 4).setWidth 8
  config :=
    { dbits := (Config.powerOnValue 5).setWidth 10
      rounds := (Config.powerOnValue 6).setWidth 4
      cols := (Config.powerOnValue 7).setWidth 5 }
  result := (Config.powerOnValue 8).setWidth 8
  mlen := Config.powerOnValue 9
  block := Vector.ofFn fun k => (Config.powerOnValue (128 + k.val)).setWidth 8
  state := Vector.ofFn fun k => (Config.powerOnValue (256 + k.val)).setWidth 8
  digest := Vector.ofFn fun k => (Config.powerOnValue (384 + k.val)).setWidth 8
  host := host
  trace := []
  draws := 0

/-- The reasons the machine stops: none. Every word, access and reachable state has a defined outcome, a draw or a
parameter (the closing paragraph of 93_implementation_defined.md; U14; log 16). -/
inductive Fault where
  deriving DecidableEq, Repr

/-- The reasons the model gives an instruction no meaning. -/
inductive Refusal where
  /-- Raised only by an arm of `exec` whose instruction has no meaning yet; there is no such arm. Safe. -/
  | notModelled (mnemonic : String)
  deriving DecidableEq, Repr

/-- What a step or a command answers. -/
abbrev Result := Host.Outcome State Fault Refusal

end Sys2Proof.Machine
end

