-- ==== Sys2Proof/Machine/Operands.lean ====
section
/-! DEFINITION. Operand checks, the context of a digest size, and the reads and writes of byte arrays by column and
row (00_scope.md R6, R8, R10; 30_encoding.md R302). -/

namespace Sys2Proof.Machine

/-- valid(d) (00_scope.md R6, 90_conflicts.md C2). -/
def validDigestBits (d : BitVec 16) : Bool :=
  d.toNat % 8 = 0 ∧ 8 ≤ d.toNat ∧ d.toNat ≤ 512

/-- The range check of SBOX's t: 0..3, never taken modulo 4 (30_encoding.md R302, 40_gf_sbox.md R406). -/
def validSboxIndex (t : Byte) : Bool := t.toNat ≤ 3

/-- ctx(d), as CONFIG holds it (00_scope.md R6, 10_state.md R111). -/
def contextOf (d : BitVec 16) : ContextReg :=
  if d.toNat ≤ 256 then { dbits := d.setWidth 10, rounds := 10, cols := 8 }
  else { dbits := d.setWidth 10, rounds := 14, cols := 16 }

/-- c, the number of columns (10_state.md R111). -/
def colsOf (s : State) : Nat := s.config.cols.toNat

/-- n, the number of rounds (10_state.md R111). -/
def roundsOf (s : State) : Nat := s.config.rounds.toNat

/-- B = 8 * c, the block size in bytes (10_state.md R111). -/
def blockBytes (s : State) : Nat := 8 * colsOf s

/-- d = CONFIG.DBITS / 8, the digest size in bytes (10_state.md R116).
DESIGN CHOICE: a DBITS that is no multiple of 8, which R111 does not list, is rounded down (log 6). -/
def digestBytes (s : State) : Nat := s.config.dbits.toNat / 8

/-- Byte k of an array. Past its end, which only a CONFIG that R111 does not list can ask for, a free value (log 6). -/
def byteAt {n : Nat} (X : Vector Byte n) (k : Nat) : Byte :=
  if h : k < n then X[k] else Config.absentByte k

/-- S[j][i]: row i of column j, byte 8*j + i (00_scope.md R8). -/
def cell (X : Buf) (j i : Nat) : Byte := byteAt X (8 * j + i)

/-- X with the bytes of its first c columns replaced: row i of column j becomes f j i; the bytes at index 8c and above
stay as they are (`setS`, 00_scope.md R10). DESIGN CHOICE: with c > 16, which 10_state.md R111 does not list, the bytes
past index 127 have no place and are dropped (log 6). -/
def mapCells (c : Nat) (X : Buf) (f : Nat → Nat → Byte) : Buf :=
  Vector.ofFn fun k => if k.val < 8 * c then f (k.val / 8) (k.val % 8) else X[k]

/-- le64 of eight bytes b 0 .. b 7, b 0 the least significant (00_scope.md R7). -/
def le64 (b : Nat → Byte) : Word64 := b 7 ++ b 6 ++ b 5 ++ b 4 ++ b 3 ++ b 2 ++ b 1 ++ b 0

/-- Byte k of le64bytes(v), v[8k+7:8k] (00_scope.md R7). -/
def le64byte (v : Word64) (k : Nat) : Byte := v.extractLsb' (8 * k) 8

/-- The 32-bit register word q of an array, byte 4q least significant (20_memory.md R203). -/
def arrayWord {n : Nat} (X : Vector Byte n) (q : Nat) : Word :=
  byteAt X (4 * q + 3) ++ byteAt X (4 * q + 2) ++ byteAt X (4 * q + 1) ++ byteAt X (4 * q)

/-- The array after a write of v to its register word q: ARR[4q+t] <- v[8t+7:8t] for t = 0..3 (20_memory.md R203). -/
def storeWord (X : Buf) (q : Nat) (v : Word) : Buf :=
  Vector.ofFn fun k => if k.val / 4 = q then v.extractLsb' (8 * (k.val % 4)) 8 else X[k]

end Sys2Proof.Machine
end

