-- ==== Sys2Proof/Machine/Flags.lean ====
section
/-! DEFINITION. STATUS and CONFIG as register words, and the error codes (10_state.md R105, R111; 60_exceptions.md
R600). The core has no other flags (10_state.md R118). -/

namespace Sys2Proof.Machine

/-- STATUS.BUSY: 1 exactly while a latched command is executing (10_state.md R106). -/
def busy (s : State) : Bool := s.pending.isSome

/-- The number of an error cause (60_exceptions.md R600). -/
def errorNumber : ErrorCode → BitVec 4
  | .illegalOpcode => 1
  | .reservedField => 2
  | .badSboxIndex => 3
  | .badDigestBits => 4
  | .notConfigured => 5
  | .alreadyFinalized => 6
  | .badTailLength => 7
  | .lengthOverflow => 8

/-- The STATUS word, its fields from bit 31 down to bit 0 (10_state.md R105). -/
def statusWord (s : State) : Word :=
  (0 : BitVec 8) ++ s.errop ++ (0 : BitVec 4) ++ s.errcode ++ (0 : BitVec 3) ++
    BitVec.ofBool s.ovr ++ BitVec.ofBool s.err ++ BitVec.ofBool s.fin ++ BitVec.ofBool s.cfg ++
    BitVec.ofBool (busy s)

/-- The CONFIG word, its fields from bit 31 down to bit 0 (10_state.md R111). -/
def configWord (r : ContextReg) : Word :=
  (0 : BitVec 3) ++ r.cols ++ (0 : BitVec 4) ++ r.rounds ++ (0 : BitVec 6) ++ r.dbits

/-- The first check that fails decides (60_exceptions.md R602). A pair is a check's failure and its code. -/
def firstError : List (Bool × ErrorCode) → Option ErrorCode
  | [] => none
  | (failed, e) :: rest => if failed then some e else firstError rest

/-- X needs a context and STATUS.CFG = 0 (60_exceptions.md R602, 10_state.md R107). -/
def needsContext (s : State) : Bool × ErrorCode := (!s.cfg, .notConfigured)

/-- ABSORB or FINAL while STATUS.FIN = 1 (60_exceptions.md R602, 10_state.md R108). -/
def notFinalized (s : State) : Bool × ErrorCode := (s.fin, .alreadyFinalized)

/-- FINAL n with n >= B (60_exceptions.md R602). -/
def tailFits (n : Byte) (s : State) : Bool × ErrorCode := (decide (blockBytes s ≤ n.toNat), .badTailLength)

/-- MLEN plus this many bits would exceed 2^64 - 1 (60_exceptions.md R602). -/
def lengthFits (bits : Nat) (s : State) : Bool × ErrorCode :=
  (decide (2 ^ 64 - 1 < s.mlen.toNat + bits), .lengthOverflow)

end Sys2Proof.Machine
end

