-- ==== Sys2Proof/Machine/Ops.lean ====
section
/-! DEFINITION. The named operations over the state: completing a command, the error action (this core's "taking an
exception") and its clearing, the resets, the register writes, and the frame every command runs in. -/

namespace Sys2Proof.Machine

/-- The completion step clears BUSY: nothing is pending any more (10_state.md R106, 70_reset_and_hazards.md R703). -/
def complete (s : State) : State := { s with pending := none }

/-- Latch a command with this many steps to go (10_state.md R104). -/
def setPending (p : Pending) (s : State) : State := { s with pending := some p }

/-- The error action's three fields (60_exceptions.md R601); the command's completion clears BUSY. -/
def markError (e : ErrorCode) (op : Byte) (s : State) : State :=
  { s with err := true, errcode := errorNumber e, errop := op }

/-- A rejected command: the error action and nothing else (60_exceptions.md R601, R607). -/
def reject (e : ErrorCode) (op : Byte) (s : State) : State := complete (markError e op s)

/-- CLRERR's four fields (43_hash_control.md R462); the "return" from an error, which restores nothing
(60_exceptions.md R607). -/
def clearErrors (s : State) : State := { s with err := false, errcode := 0, errop := 0, ovr := false }

/-- Every element of state takes its reset value (10_state.md R121), for a hard reset and for SRESET alike
(70_reset_and_hazards.md R700, R701). The model's own three fields are no element of the core's state (log 8, log 9). -/
def resetCore (s : State) : State :=
  { State.reset with host := s.host, trace := s.trace, draws := s.draws }

/-- RESULT <- zext_32(b) (10_state.md R112). -/
def setResult (b : Byte) (s : State) : State := { s with result := b }

/-- MLEN <- v (10_state.md R113). -/
def setMlen (v : Word64) (s : State) : State := { s with mlen := v }

/-- BLOCK <- X (10_state.md R114). -/
def setBlock (X : Buf) (s : State) : State := { s with block := X }

/-- STATE <- X (10_state.md R115). -/
def setChain (X : Buf) (s : State) : State := { s with state := X }

/-- DIGEST <- D (10_state.md R116). -/
def setDigest (D : Vector Byte 64) (s : State) : State := { s with digest := D }

/-- CONFIG <- r, CFG <- 1, FIN <- 0 (43_hash_control.md R463). -/
def loadContext (r : ContextReg) (s : State) : State := { s with config := r, cfg := true, fin := false }

/-- STATUS.FIN <- 1 (43_hash_control.md R467). -/
def setFin (s : State) : State := { s with fin := true }

/-- STATUS.OVR <- 1 (10_state.md R110). -/
def setOvr (s : State) : State := { s with ovr := true }

/-- The host's operations still to come. -/
def setHost (ops : List HostOp) (s : State) : State := { s with host := ops }

/-- The port's answer is noted. -/
def record (r : Response) (s : State) : State := { s with trace := r :: s.trace }

/-- One more free value has been drawn. -/
def countDraw (s : State) : State := { s with draws := s.draws + 1 }

/-- How every command but SRESET and CLRERR runs (60_exceptions.md R602): ignored while ERR = 1 (R603), else rejected
with the first check that fails (R601), else its effect; BUSY is cleared in each case (10_state.md R106). -/
def command (i : Instr) (checks : List (Bool × ErrorCode)) (effect : State) (s : State) : Result :=
  if s.err then .next (complete s)
  else
    match firstError checks with
    | some e => .next (reject e (opcodeOf i) s)
    | none => .next (complete effect)

/-- The code of a word that is no command (60_exceptions.md R600, 30_encoding.md R304, R305). -/
def decodeErrorCode : DecodeError → ErrorCode
  | .illegalOpcode _ => .illegalOpcode
  | .reservedField _ => .reservedField

/-- OP of a word that is no command. -/
def decodeErrorOp : DecodeError → Byte
  | .illegalOpcode op => op
  | .reservedField op => op

/-- A latched word that is no command: ignored while ERR = 1 (60_exceptions.md R603), else rejected (R602). -/
def rejectWord (e : DecodeError) (s : State) : Result :=
  if s.err then .next (complete s)
  else .next (reject (decodeErrorCode e) (decodeErrorOp e) s)

end Sys2Proof.Machine
end

