-- ==== Sys2Proof/Machine/ByteUnits.lean ====
section
/-! DEFINITION. The byte units GFMUL, GFTAB and SBOX (40_gf_sbox.md R403, R404, R406). -/

namespace Sys2Proof.Machine

/-- GFMUL x, y: the shift-and-reduce datapath (40_gf_sbox.md R403). -/
def execGfmul (x y : Byte) (s : State) : Result := command (.gfmul x y) [] (setResult (gfMul x y) s) s

/-- GFTAB x, y: the product table (40_gf_sbox.md R404). -/
def execGftab (x y : Byte) (s : State) : Result := command (.gftab x y) [] (setResult (gft x y) s) s

/-- SBOX t, x (40_gf_sbox.md R406). -/
def execSbox (t x : Byte) (s : State) : Result :=
  command (.sbox t x) [(!validSboxIndex t, .badSboxIndex)] (setResult (sboxAt t.toNat x) s) s

end Sys2Proof.Machine
end

