-- ==== Sys2Proof/Machine/Layers.lean ====
section
/-! DEFINITION. The round layers and one round of P and Q, on a state of c columns (41_round_layers.md R410-R422).
Each layer leaves the bytes at index 8c and above as they are. -/

namespace Sys2Proof.Machine

/-- SubBytes (41_round_layers.md R410). -/
def subBytes (c : Nat) (X : Buf) : Buf := mapCells c X fun j i => sboxAt (i % 4) (cell X j i)

/-- sh(i, c) (41_round_layers.md R412, 90_conflicts.md C5). -/
def shiftAmount (i c : Nat) : Nat := if i = 7 ∧ c = 16 then 11 else i

/-- The column (j - sh(i, c)) mod c that row i of column j comes from (41_round_layers.md R413). -/
def shiftSource (c j i : Nat) : Nat := (((j : Int) - (shiftAmount i c : Int)) % (c : Int)).toNat

/-- ShiftRows (41_round_layers.md R413). -/
def shiftRows (c : Nat) (X : Buf) : Buf := mapCells c X fun j i => cell X (shiftSource c j i) i

/-- The XOR of f b over b in 0..7. -/
def xorSum8 (f : Nat → Byte) : Byte := f 0 ^^^ f 1 ^^^ f 2 ^^^ f 3 ^^^ f 4 ^^^ f 5 ^^^ f 6 ^^^ f 7

/-- MixColumns (41_round_layers.md R416). -/
def mixColumns (c : Nat) (X : Buf) : Buf :=
  mapCells c X fun j row => xorSum8 fun b => gft (cell X j b) (mds row b)

/-- The byte ((j * 0x10) ^ r)[7:0] of AddRcP (41_round_layers.md R418). -/
def rcP (j : Nat) (r : Byte) : Byte := BitVec.ofNat 8 (j * 0x10) ^^^ r

/-- AddRcP (41_round_layers.md R418). -/
def addRcP (c : Nat) (r : Byte) (X : Buf) : Buf :=
  mapCells c X fun j i => if i = 0 then cell X j 0 ^^^ rcP j r else cell X j i

/-- wq(j, r) for c columns (41_round_layers.md R420). -/
def wq (c j : Nat) (r : Byte) : Word64 :=
  0x00F0F0F0F0F0F0F3 ^^^ ((BitVec.ofNat 8 ((c - j - 1) * 0x10) ^^^ r).setWidth 64 <<< 56)

/-- Column j as a 64-bit little-endian integer (41_round_layers.md R420, 20_memory.md R206). -/
def columnWord (X : Buf) (j : Nat) : Word64 := le64 (cell X j)

/-- AddRcQ: addition modulo 2^64 in each column, the carry out discarded (41_round_layers.md R420). -/
def addRcQ (c : Nat) (r : Byte) (X : Buf) : Buf :=
  mapCells c X fun j i => le64byte (columnWord X j + wq c j r) i

/-- RoundP (41_round_layers.md R422). -/
def roundP (c : Nat) (r : Byte) (X : Buf) : Buf := mixColumns c (shiftRows c (subBytes c (addRcP c r X)))

/-- RoundQ (41_round_layers.md R422). -/
def roundQ (c : Nat) (r : Byte) (X : Buf) : Buf := mixColumns c (shiftRows c (subBytes c (addRcQ c r X)))

end Sys2Proof.Machine
end

