-- ==== Sys2Proof/Machine/Compress.lean ====
section
/-! DEFINITION. The permutations, the compression function, the initial state, the padding, the output transform, the
truncation, and the whole hash of a message (42_permutations_compression.md R440-R449; 43_hash_control.md R464, R466,
R468). -/

namespace Sys2Proof.Machine

/-- P over n rounds, numbered 0 to n-1 (42_permutations_compression.md R440). -/
def permP (n c : Nat) (X : Buf) : Buf :=
  (List.range n).foldl (fun Y r => roundP c (BitVec.ofNat 8 r) Y) X

/-- Q over n rounds (42_permutations_compression.md R441). -/
def permQ (n c : Nat) (X : Buf) : Buf :=
  (List.range n).foldl (fun Y r => roundQ c (BitVec.ofNat 8 r) Y) X

/-- X ^ Y on the first c columns (00_scope.md R9). -/
def xorCells (c : Nat) (X Y : Buf) : Buf := mapCells c X fun j i => cell X j i ^^^ cell Y j i

/-- T(S, M) = P(S ^ M) ^ Q(M) ^ S (42_permutations_compression.md R445). -/
def compress (n c : Nat) (S M : Buf) : Buf :=
  xorCells c (xorCells c (permP n c (xorCells c S M)) (permQ n c M)) S

/-- The output transform P(S) ^ S (42_permutations_compression.md R447). -/
def outputTransform (n c : Nat) (S : Buf) : Buf := xorCells c (permP n c S) S

/-- F[8c - d + k], byte k of the truncation (42_permutations_compression.md R449, R450).
DESIGN CHOICE: with d > 8c, which only a CONFIG that 10_state.md R111 does not list can ask for, the index is negative
for k < d - 8c and the spec states no result; the byte is then a free value (log 6). -/
def trailingByte (c d k : Nat) (F : Buf) : Byte :=
  if d ≤ 8 * c + k then byteAt F (8 * c + k - d) else Config.absentByte ((8 * c + k : Nat) - (d : Int))

/-- Trunc(F, d) in DIGEST's layout: the last d of the 8c bytes, then zeros (42_permutations_compression.md R449, R450).
DESIGN CHOICE: with d > 64, which R111 does not list either, DIGEST takes the first 64 of the d bytes, for it has no
more (log 6). -/
def truncDigest (c d : Nat) (F : Buf) : Vector Byte 64 :=
  Vector.ofFn fun k => if k.val < d then trailingByte c d k.val F else 0

/-- IV(c) padded with zeros to 128 bytes (43_hash_control.md R463, R464). -/
def initialState (c : Nat) : Buf := Vector.ofFn fun k => if k.val = 0 then BitVec.ofNat 8 (8 * c) else 0

/-- z, the number of zero bytes after the marker (43_hash_control.md R466, 90_conflicts.md C3). -/
def padZeros (n B : Nat) : Nat := (-((n : Int) + 13) % (B : Int)).toNat

/-- PadSuffix(tail, N, B) (43_hash_control.md R466). -/
def padSuffix (tail : List Byte) (N : Word64) (B : Nat) : List Byte :=
  tail ++ [0x80] ++ List.replicate (padZeros tail.length B) 0 ++ (List.range 8).map (le64byte N) ++ [0, 0, 0, 0]

/-- U[qB .. qB+B-1] laid over a block (43_hash_control.md R467); the bytes past B are read by nothing.
With B > 128, which 10_state.md R111 does not list, the bytes past index 127 have no place and are dropped (log 6). -/
def blockOf (U : List Byte) (B q : Nat) : Buf :=
  Vector.ofFn fun k => if k.val < B then U.getD (q * B + k.val) (Config.absentByte k.val) else 0

/-- T over the len(U)/B blocks of U, in order (43_hash_control.md R467). -/
def compressAll (n c B : Nat) (U : List Byte) (X : Buf) : Buf :=
  (List.range (U.length / B)).foldl (fun Y q => compress n c Y (blockOf U B q)) X

/-- The first n bytes of an array, as BLOCK[0..n-1] (43_hash_control.md R467). -/
def firstBytes {k : Nat} (X : Vector Byte k) (n : Nat) : List Byte := (List.range n).map (byteAt X)

/-- hash(m, d), the document's one-call function: context, padding of the whole message, compression of every block,
output transform, truncation (43_hash_control.md R468). For a valid d and a message of at most 2^64 - 1 bits. -/
def hashOf (m : List Byte) (d : BitVec 16) : List Byte :=
  let c := (contextOf d).cols.toNat
  let n := (contextOf d).rounds.toNat
  let B := 8 * c
  let padded := padSuffix m (BitVec.ofNat 64 (8 * m.length)) B
  let F := outputTransform n c (compressAll n c B padded (initialState c))
  (List.range (d.toNat / 8)).map fun k => byteAt F (B - d.toNat / 8 + k)

end Sys2Proof.Machine
end

