-- ==== Sys2Proof/Machine/Control.lean ====
section
/-! DEFINITION. The control and hash commands (43_hash_control.md). -/

namespace Sys2Proof.Machine

/-- NOP: no state change (43_hash_control.md R460). -/
def execNop (s : State) : Result := command .nop [] s s

/-- SRESET: every element of state takes its reset value, even while ERR = 1 (43_hash_control.md R461,
60_exceptions.md R603). -/
def execSreset (s : State) : Result := .next (complete (resetCore s))

/-- CLRERR: clears ERR, ERRCODE, ERROP and OVR, even while ERR = 1 (43_hash_control.md R462, 60_exceptions.md R603). -/
def execClrerr (s : State) : Result := .next (complete (clearErrors s))

/-- INIT's effect: the context, the initial state, MLEN and DIGEST to zero (43_hash_control.md R463). -/
def initEffect (d : BitVec 16) (s : State) : State :=
  loadContext (contextOf d)
    (setChain (initialState (contextOf d).cols.toNat)
      (setMlen 0 (setDigest (Vector.replicate 64 0) s)))

/-- INIT d (43_hash_control.md R463). -/
def execInit (d : BitVec 16) (s : State) : Result :=
  command (.init d) [(!validDigestBits d, .badDigestBits)] (initEffect d s) s

/-- ABSORB's effect: T over BLOCK, MLEN plus 8B (43_hash_control.md R465). -/
def absorbEffect (s : State) : State :=
  setMlen (s.mlen + BitVec.ofNat 64 (8 * blockBytes s))
    (setChain (compress (roundsOf s) (colsOf s) s.state s.block) s)

/-- ABSORB (43_hash_control.md R465). -/
def execAbsorb (s : State) : Result :=
  command .absorb [needsContext s, notFinalized s, lengthFits (8 * blockBytes s) s] (absorbEffect s) s

/-- N, the whole message's length in bits when FINAL n ends it (43_hash_control.md R467). -/
def finalLength (n : Byte) (s : State) : Word64 := s.mlen + BitVec.ofNat 64 (8 * n.toNat)

/-- F, the finalised state of FINAL n (43_hash_control.md R467). -/
def finalState (n : Byte) (s : State) : Buf :=
  outputTransform (roundsOf s) (colsOf s)
    (compressAll (roundsOf s) (colsOf s) (blockBytes s)
      (padSuffix (firstBytes s.block n.toNat) (finalLength n s) (blockBytes s)) s.state)

/-- FINAL's effect: the digest, STATE cleared, MLEN = N, FIN = 1 (43_hash_control.md R467). -/
def finalEffect (n : Byte) (s : State) : State :=
  setFin
    (setMlen (finalLength n s)
      (setChain (Vector.replicate 128 0)
        (setDigest (truncDigest (colsOf s) (digestBytes s) (finalState n s)) s)))

/-- FINAL n (43_hash_control.md R467). -/
def execFinal (n : Byte) (s : State) : Result :=
  command (.final n) [needsContext s, notFinalized s, tailFits n s, lengthFits (8 * n.toNat) s]
    (finalEffect n s) s

end Sys2Proof.Machine
end

