-- ==== Sys2Proof/Machine/LayerCommands.lean ====
section
/-! DEFINITION. The round-layer commands (41_round_layers.md R411-R424). -/

namespace Sys2Proof.Machine

/-- A command that needs a context and does nothing but STATE <- X: the shape of every layer, permutation and
combiner command (41_round_layers.md and 42_permutations_compression.md, their opening paragraphs). -/
def stateCommand (i : Instr) (X : Buf) (s : State) : Result := command i [needsContext s] (setChain X s) s

/-- SUBB (41_round_layers.md R411). -/
def execSubb (s : State) : Result := stateCommand .subb (subBytes (colsOf s) s.state) s

/-- SHIFTR (41_round_layers.md R414). -/
def execShiftr (s : State) : Result := stateCommand .shiftr (shiftRows (colsOf s) s.state) s

/-- MIXC (41_round_layers.md R417). -/
def execMixc (s : State) : Result := stateCommand .mixc (mixColumns (colsOf s) s.state) s

/-- ADDRCP r (41_round_layers.md R419). -/
def execAddrcp (r : Byte) (s : State) : Result := stateCommand (.addrcp r) (addRcP (colsOf s) r s.state) s

/-- ADDRCQ r (41_round_layers.md R421). -/
def execAddrcq (r : Byte) (s : State) : Result := stateCommand (.addrcq r) (addRcQ (colsOf s) r s.state) s

/-- ROUNDP r (41_round_layers.md R423). -/
def execRoundp (r : Byte) (s : State) : Result := stateCommand (.roundp r) (roundP (colsOf s) r s.state) s

/-- ROUNDQ r (41_round_layers.md R424). -/
def execRoundq (r : Byte) (s : State) : Result := stateCommand (.roundq r) (roundQ (colsOf s) r s.state) s

end Sys2Proof.Machine
end

