-- ==== Sys2Proof/Machine/PermCommands.lean ====
section
/-! DEFINITION. The permutation, combiner, output and truncation commands (42_permutations_compression.md R442-R450). -/

namespace Sys2Proof.Machine

/-- PERMP (42_permutations_compression.md R442). -/
def execPermp (s : State) : Result := stateCommand .permp (permP (roundsOf s) (colsOf s) s.state) s

/-- PERMQ (42_permutations_compression.md R443). -/
def execPermq (s : State) : Result := stateCommand .permq (permQ (roundsOf s) (colsOf s) s.state) s

/-- XORB (42_permutations_compression.md R444). -/
def execXorb (s : State) : Result := stateCommand .xorb (xorCells (colsOf s) s.state s.block) s

/-- TCOMP (42_permutations_compression.md R446). -/
def execTcomp (s : State) : Result :=
  stateCommand .tcomp (compress (roundsOf s) (colsOf s) s.state s.block) s

/-- OUTT (42_permutations_compression.md R448). -/
def execOutt (s : State) : Result := stateCommand .outt (outputTransform (roundsOf s) (colsOf s) s.state) s

/-- TRUNC (42_permutations_compression.md R450). -/
def execTrunc (s : State) : Result :=
  command .trunc [needsContext s] (setDigest (truncDigest (colsOf s) (digestBytes s) s.state) s) s

end Sys2Proof.Machine
end

