-- ==== Sys2Proof/Machine/Dispatch.lean ====
section
/-! DEFINITION. What each command does at its completion step: one arm per constructor of Instr. -/

namespace Sys2Proof.Machine

/-- The completion step of command i (60_exceptions.md R602). -/
def exec (i : Instr) (s : State) : Host.Outcome State Fault Refusal :=
  match i with
  | .nop => Sys2Proof.Machine.execNop s
  | .sreset => Sys2Proof.Machine.execSreset s
  | .clrerr => Sys2Proof.Machine.execClrerr s
  | .init d => Sys2Proof.Machine.execInit d s
  | .absorb => Sys2Proof.Machine.execAbsorb s
  | .final n => Sys2Proof.Machine.execFinal n s
  | .gfmul x y => Sys2Proof.Machine.execGfmul x y s
  | .gftab x y => Sys2Proof.Machine.execGftab x y s
  | .sbox t x => Sys2Proof.Machine.execSbox t x s
  | .subb => Sys2Proof.Machine.execSubb s
  | .shiftr => Sys2Proof.Machine.execShiftr s
  | .mixc => Sys2Proof.Machine.execMixc s
  | .addrcp r => Sys2Proof.Machine.execAddrcp r s
  | .addrcq r => Sys2Proof.Machine.execAddrcq r s
  | .roundp r => Sys2Proof.Machine.execRoundp r s
  | .roundq r => Sys2Proof.Machine.execRoundq r s
  | .permp => Sys2Proof.Machine.execPermp s
  | .permq => Sys2Proof.Machine.execPermq s
  | .xorb => Sys2Proof.Machine.execXorb s
  | .tcomp => Sys2Proof.Machine.execTcomp s
  | .outt => Sys2Proof.Machine.execOutt s
  | .trunc => Sys2Proof.Machine.execTrunc s

end Sys2Proof.Machine
end

