-- ==== Sys2Proof/Machine/HostPort.lean ====
section
/-! DEFINITION. The host port (20_memory.md R200-R208), the host's moves, and the pseudo-instructions of a host program
(30_encoding.md R308; 43_hash_control.md R469). -/

namespace Sys2Proof.Machine

/-- The constant of ID, ASCII "ZPH1" (10_state.md R103; log 12). -/
def idWord : Word := 0x5A504831

/-- STATUS's address (10_state.md R101). -/
def statusAddr : Addr := 0x008

/-- CMD's address (10_state.md R101). -/
def cmdAddr : Addr := 0x004

/-- Address decoding: the register at an aligned mapped address, none for a misaligned or a reserved one
(10_state.md R101; 20_memory.md R201, R202, R204). -/
def regAt (a : Addr) : Option HostReg :=
  if a.toNat % 4 ≠ 0 then none
  else if a.toNat = 0x000 then some .id
  else if a.toNat = 0x004 then some .cmd
  else if a.toNat = 0x008 then some .status
  else if a.toNat = 0x00C then some .config
  else if a.toNat = 0x010 then some .result
  else if a.toNat = 0x018 then some .mlenLo
  else if a.toNat = 0x01C then some .mlenHi
  else if 0x080 ≤ a.toNat ∧ a.toNat ≤ 0x0FC then some (.block ((a.toNat - 0x080) / 4))
  else if 0x100 ≤ a.toNat ∧ a.toNat ≤ 0x17C then some (.state ((a.toNat - 0x100) / 4))
  else if 0x180 ≤ a.toNat ∧ a.toNat ≤ 0x1BC then some (.digest ((a.toNat - 0x180) / 4))
  else none

/-- view(A): the value of a mapped register (20_memory.md R203; 10_state.md R102-R116). CMD reads 0 (R104). -/
def viewReg (s : State) : HostReg → Word
  | .id => idWord
  | .cmd => 0
  | .status => statusWord s
  | .config => configWord s.config
  | .result => s.result.setWidth 32
  | .mlenLo => s.mlen.extractLsb' 0 32
  | .mlenHi => s.mlen.extractLsb' 32 32
  | .block q => arrayWord s.block q
  | .state q => arrayWord s.state q
  | .digest q => arrayWord s.digest q

/-- The data of a read of a mapped register while BUSY = 1 and the state after it: STATUS is right, any other register
gives a free value (20_memory.md R202, 70_reset_and_hazards.md R706; log 4). -/
def busyView (s : State) (r : HostReg) : Word × State :=
  if r = .status then (viewReg s r, s) else (Config.busyRead s.draws, countDraw s)

/-- MemRead(A, 4) (20_memory.md R202): the response, the data and the state after it. -/
def memRead (a : Addr) (s : State) : Resp × Word × State :=
  match regAt a with
  | none => (.slverr, 0, s)
  | some r =>
    if busy s then (.okay, busyView s r)
    else (.okay, viewReg s r, s)

/-- A CMD write while BUSY = 0 latches the command, to keep BUSY at 1 for Latency(w, state) >= 1 steps
(10_state.md R104, 70_reset_and_hazards.md R704; log 3). -/
def latch (w : Word) (s : State) : State :=
  countDraw (setPending { word := w, left := Config.extraLatency w s.draws + 1 } s)

/-- A write of v to a mapped register while BUSY = 0 (20_memory.md R202): CMD, BLOCK and STATE take it; a register that
is read-only refuses it and changes nothing (10_state.md R102). -/
def writeReg (r : HostReg) (v : Word) (s : State) : Resp × State :=
  match r with
  | .cmd => (.okay, latch v s)
  | .block q => (.okay, setBlock (storeWord s.block q v) s)
  | .state q => (.okay, setChain (storeWord s.state q v) s)
  | .id | .status | .config | .result | .mlenLo | .mlenHi | .digest _ => (.slverr, s)

/-- MemWrite(A, 4, v) (20_memory.md R202): while BUSY = 1 it is discarded, whatever A is, and sets OVR
(70_reset_and_hazards.md R705). -/
def memWrite (a : Addr) (v : Word) (s : State) : Resp × State :=
  if busy s then (.okay, setOvr s)
  else
    match regAt a with
    | none => (.slverr, s)
    | some r => writeReg r v s

/-- A read by the host, its answer noted. -/
def hostRead (a : Addr) (s : State) : State :=
  match memRead a s with
  | (resp, data, s') => record (.ofRead resp data) s'

/-- A write by the host, its answer noted. -/
def hostWrite (a : Addr) (v : Word) (s : State) : State :=
  match memWrite a v s with
  | (resp, s') => record (.ofWrite resp) s'

/-- One turn of the WAIT loop: RD 0x008 -> s, and again until s[0] = 0 (30_encoding.md R308; log 18). -/
def hostWait (s : State) : State :=
  if busy s then setHost (.wait :: s.host) (hostRead statusAddr s) else hostRead statusAddr s

/-- One move of the outside (10_state.md R100, 70_reset_and_hazards.md R700). -/
def hostMove : HostOp → State → State
  | .read a, s => hostRead a s
  | .write a v, s => hostWrite a v s
  | .wait, s => hostWait s
  | .idle, s => s
  | .hardReset, s => resetCore s

/-- The host's next move, if it has one; a core left alone is idle and holds all its state
(60_exceptions.md R612). -/
def hostTurn (s : State) : State :=
  match s.host with
  | [] => s
  | op :: rest => hostMove op (setHost rest s)

/-- `C <command>`: WR 0x004, enc(<command>), then WAIT (30_encoding.md R308). -/
def progCommand (i : Instr) : List HostOp := [.write cmdAddr (encode i), .wait]

/-- The writes that load bytes at a base address, a word at a time, absent bytes 0 (30_encoding.md R308). -/
def progLoad (base : Nat) (bytes : List Byte) : List HostOp :=
  (List.range ((bytes.length + 3) / 4)).map fun q =>
    .write (BitVec.ofNat 10 (base + 4 * q))
      (bytes.getD (4 * q + 3) 0 ++ bytes.getD (4 * q + 2) 0 ++ bytes.getD (4 * q + 1) 0 ++ bytes.getD (4 * q) 0)

/-- LDBLK (30_encoding.md R308). -/
def progLoadBlock (bytes : List Byte) : List HostOp := progLoad 0x080 bytes

/-- LDSTATE (30_encoding.md R308). -/
def progLoadState (bytes : List Byte) : List HostOp := progLoad 0x100 bytes

/-- RDDIGEST k (30_encoding.md R308). -/
def progReadDigest (k : Nat) : List HostOp :=
  (List.range ((k + 3) / 4)).map fun q => .read (BitVec.ofNat 10 (0x180 + 4 * q))

/-- The word a response carries: none for a write's. -/
def readData : Response → Option Word
  | .ofRead _ data => some data
  | .ofWrite _ => none

/-- A word split little-endian, its byte 0 first (30_encoding.md R308, 20_memory.md R203). -/
def wordBytes (w : Word) : List Byte := (List.range 4).map fun t => w.extractLsb' (8 * t) 8

/-- The result b0..b(k-1) of RDDIGEST k, from the answers in `trace` (newest first) right after its reads: the words of
the last ceil(k/4) answers, oldest first, split little-endian, the last word cut to the k bytes (30_encoding.md R308). -/
def readDigestBytes (k : Nat) (trace : List Response) : List Byte :=
  (((trace.take ((k + 3) / 4)).reverse.filterMap readData).flatMap wordBytes).take k

/-- The read of CHECK (30_encoding.md R308). -/
def progCheck : List HostOp := [.read statusAddr]

/-- CHECK's verdict on the word it read: the program has failed if ERR or OVR is 1 (30_encoding.md R308). -/
def checkFailed (w : Word) : Bool := w.getLsbD 3 || w.getLsbD 4

/-- The canonical program for hash(m, d) (43_hash_control.md R469). -/
def hashProgram (m : List Byte) (d : BitVec 16) : List HostOp :=
  let B := 8 * (contextOf d).cols.toNat
  let k := m.length / B
  progCommand (.init d) ++ progCheck ++
    (List.range k).flatMap (fun q => progLoadBlock ((m.drop (q * B)).take B) ++ progCommand .absorb) ++
    progLoadBlock (m.drop (k * B)) ++ progCommand (.final (BitVec.ofNat 8 (m.length % B))) ++ progCheck ++
    progReadDigest (d.toNat / 8)

end Sys2Proof.Machine
end

