-- ==== Sys2Proof/Machine/Run.lean ====
section
/-! DEFINITION. One step of the machine: a move of one agent (10_state.md R100; 70_reset_and_hazards.md R703, R704). -/

namespace Sys2Proof.Machine

/-- The completion step of a latched word (60_exceptions.md R602; 30_encoding.md R306). -/
def runWord (w : Word) (s : State) : Result :=
  match decode w with
  | .ok i => exec i s
  | .error e => rejectWord e s

/-- A step of a running command that is not its last: one step fewer to go, and the host may make an access. -/
def busyTurn (p : Pending) (s : State) : State :=
  hostTurn (setPending { word := p.word, left := p.left - 1 } s)

/-- One step. A command at its last step completes; before that the host moves and the command comes one step nearer to
its completion; with no command the host moves (10_state.md R100, 70_reset_and_hazards.md R704; log 2). -/
def stepMachine (s : State) : Result :=
  match s.pending with
  | none => .next (hostTurn s)
  | some p => if p.left ≤ 1 then runWord p.word s else .next (busyTurn p s)

/-- The state in which the latched command is this word, at its completion step (log 1). -/
def loadWord (w : Word) (s : State) : State := setPending { word := w, left := 1 } s

end Sys2Proof.Machine
end

