-- ==== Sys2Proof/Machine/Step.lean ====
section
/-! DEFINITION. The machine's step, and the placing of one instruction for it. -/

namespace Sys2Proof.Machine

/-- One step of the machine (Machine/Run.lean). -/
def step (s : State) : Host.Outcome State Fault Refusal := stepMachine s

/-- s with the command whose bits are w latched and at its completion step, so that the very next step runs it. The
core fetches nothing (10_state.md R117): a command comes to run by a host's CMD write (R104), for which this stands
(log 1). Bits above nbits are 0. -/
def State.withFetchWord (s : State) (nbits w : Nat) : State := loadWord (BitVec.ofNat 32 (w % 2 ^ nbits)) s

end Sys2Proof.Machine
end

