-- ==== Sys2Proof/Safety.lean ====
section
/-! DEFINITION. What statements about the machine are said in: legal states, what a command may change, sequences of
commands, the check order of 60_exceptions.md R602 read off the word alone, and which agent moves in a step. -/

namespace Sys2Proof.Safety

open Sys2Proof.Machine

/-- CFG = 0 with CONFIG = 0, or CFG = 1 with the context of a valid digest size (10_state.md R107, R111). -/
def LegalContext (s : State) : Prop :=
  (s.cfg = false ∧ s.config = { dbits := 0, rounds := 0, cols := 0 }) ∨
  (s.cfg = true ∧ ∃ d : BitVec 16, validDigestBits d = true ∧ s.config = contextOf d)

/-- The error fields say one of the eight causes, or nothing (10_state.md R105, R109; 60_exceptions.md R600). -/
def LegalError (s : State) : Prop :=
  (s.err = false ∧ s.errcode = 0 ∧ s.errop = 0) ∨ (s.err = true ∧ 1 ≤ s.errcode.toNat ∧ s.errcode.toNat ≤ 8)

/-- What holds in every state after the first hard reset. -/
structure CoreInv (s : State) : Prop where
  /-- CONFIG takes only the listed values (10_state.md R111). -/
  context : LegalContext s
  /-- Codes 9 to 15 are never recorded, and the fields are 0 while ERR = 0 (60_exceptions.md R600). -/
  error : LegalError s
  /-- FIN = 1 only in a context (10_state.md R107, R108). -/
  finalized : s.fin = true → s.cfg = true
  /-- DIGEST[d..63] = 0 (10_state.md R116). -/
  digestTail : ∀ k, digestBytes s ≤ k → k < 64 → byteAt s.digest k = 0
  /-- MLEN counts whole bytes (43_hash_control.md R465, R467). -/
  wholeBytes : s.mlen.toNat % 8 = 0
  /-- A latched command keeps BUSY at 1 for at least one step (70_reset_and_hazards.md R704). -/
  latency : ∀ p, s.pending = some p → 1 ≤ p.left

/-- No error stands and a legal context is loaded: what a command that needs a context asks for
(60_exceptions.md R602). That the context is legal is part of `CoreInv`. -/
def Working (s : State) : Prop := s.err = false ∧ s.cfg = true ∧ LegalContext s

/-- A command that changed STATE at most: every other register, DIGEST, BLOCK, MLEN and all of STATUS but BUSY are as
they were, and the command has completed. -/
def OnlyState (s t : State) : Prop := t = { s with state := t.state, pending := none }

/-- A command that changed RESULT at most. -/
def OnlyResult (s t : State) : Prop := t = { s with result := t.result, pending := none }

/-- A command that changed DIGEST at most. -/
def OnlyDigest (s t : State) : Prop := t = { s with digest := t.digest, pending := none }

/-- The commands one after the other, each completing before the next. -/
def runCommands : List Instr → State → Result
  | [], s => .next s
  | i :: is, s =>
    match exec i s with
    | .next t => runCommands is t
    | .fault r => .fault r
    | .refused r => .refused r

/-- For each block in turn: load it into BLOCK, then run the command (43_hash_control.md R468). -/
def runLoaded (i : Instr) : List Buf → State → Result
  | [], s => .next s
  | M :: Ms, s =>
    match exec i (setBlock M s) with
    | .next t => runLoaded i Ms t
    | .fault r => .fault r
    | .refused r => .refused r

/-- The blocks of a byte string, B bytes each. -/
def blocksOf (U : List Byte) (B : Nat) : List Buf := (List.range (U.length / B)).map (blockOf U B)

/-- Two arrays agree on the bytes below k. -/
def AgreeBelow (k : Nat) (X Y : Buf) : Prop := ∀ j, j < k → j < 128 → byteAt X j = byteAt Y j

/-- The command word w completes in this step. -/
def Completes (s : State) (w : Word) : Prop := ∃ p, s.pending = some p ∧ p.left ≤ 1 ∧ p.word = w

/-- The host makes the move op in this step. -/
def HostMoves (s : State) (op : HostOp) : Prop :=
  (∀ p, s.pending = some p → 1 < p.left) ∧ ∃ rest, s.host = op :: rest

/-- The opcodes of 30_encoding.md R303. -/
def opcodes : List Byte :=
  [0x00, 0x01, 0x02, 0x10, 0x11, 0x12, 0x20, 0x21, 0x22, 0x30, 0x31, 0x32, 0x33, 0x34, 0x35, 0x36,
    0x40, 0x41, 0x42, 0x43, 0x44, 0x45]

/-- The opcodes of the commands that need a context (10_state.md R107). -/
def contextOpcodes : List Byte :=
  [0x11, 0x12, 0x30, 0x31, 0x32, 0x33, 0x34, 0x35, 0x36, 0x40, 0x41, 0x42, 0x43, 0x44, 0x45]

/-- The bits of w that must be zero for its opcode (30_encoding.md R301, R303). -/
def zeroBits (op : Byte) : Word :=
  if op = 0x10 then 0x00FF0000
  else if op = 0x12 then 0x00FFFF00
  else if op = 0x20 ∨ op = 0x21 ∨ op = 0x22 then 0x000000FF
  else if op = 0x33 ∨ op = 0x34 ∨ op = 0x35 ∨ op = 0x36 then 0x0000FFFF
  else 0x00FFFFFF

/-- The code the checks of 60_exceptions.md R602 give for the word w with ERR = 0, in that rule's order, and 0 when
none applies. -/
def checkOrder (w : Word) (s : State) : BitVec 4 :=
  let op := w.extractLsb' 24 8
  if op ∉ opcodes then 1
  else if w &&& zeroBits op ≠ 0 then 2
  else if op = 0x22 ∧ 3 < (w.extractLsb' 16 8).toNat then 3
  else if op = 0x10 ∧ ¬((w.extractLsb' 0 16).toNat % 8 = 0 ∧ 8 ≤ (w.extractLsb' 0 16).toNat ∧
      (w.extractLsb' 0 16).toNat ≤ 512) then 4
  else if op ∈ contextOpcodes ∧ s.cfg = false then 5
  else if (op = 0x11 ∨ op = 0x12) ∧ s.fin = true then 6
  else if op = 0x12 ∧ 8 * s.config.cols.toNat ≤ (w.extractLsb' 0 8).toNat then 7
  else if op = 0x11 ∧ s.mlen.toNat + 64 * s.config.cols.toNat > 2 ^ 64 - 1 then 8
  else if op = 0x12 ∧ s.mlen.toNat + 8 * (w.extractLsb' 0 8).toNat > 2 ^ 64 - 1 then 8
  else 0

end Sys2Proof.Safety
end

