-- ==== Sys2Proof/Certificates/Slice0/Obligations.lean ====
section
/-! DEFINITION. The statements about the ZP-HASH core, each with the rules of spec/ it comes from.

Where a statement gives the next state as an update of the old one, it also says that the model's own fields `host`,
`trace` and `draws` stay as they were. No rule of spec/ says that: it is the model's choice, that the host makes no move
in a completion step (log 2) and that a reset keeps the three fields (log 9). -/

open Sys2Proof Sys2Proof.Machine Sys2Proof.Safety

/-! ## Encoding (30_encoding.md) -/

/-- Every command, at every value of its operands, is decoded from its own encoding (R301, R302, R306). -/
def Obligations.DecodeEncodeRoundTrip : Prop := ∀ i : Instr, decode (encode i) = .ok i

/-- A word that decodes is the encoding of what it decodes to, so no two words are one command; and a word encodes a
command of opcode X exactly when (w & mask_X) = X << 24 (R301). -/
def Obligations.DecodedWordIsItsEncoding : Prop :=
  (∀ (w : Word) (i : Instr), decode w = .ok i → encode i = w) ∧
  (∀ (w : Word) (i : Instr),
    (∃ j, decode w = .ok j ∧ opcodeOf j = opcodeOf i) ↔
      w &&& formatMask (formatOf i) = (opcodeOf i).setWidth 32 <<< 24)

/-- One printed word of each of the 22 commands decodes to that command: the five example words of R307, and for each
other command a word that its own rule or 95_test_vectors.md sections 2.3 and 2.4 print. The assembler gives every form of
R307: the thirteen without operands, and INIT, FINAL, GFMUL, GFTAB, SBOX, ADDRCP, ADDRCQ, ROUNDP and ROUNDQ with
theirs, refusing an operand wider than its field and no other. -/
def Obligations.PrintedWordsDecode : Prop :=
  decode 0x00000000 = .ok .nop ∧ decode 0x01000000 = .ok .sreset ∧ decode 0x02000000 = .ok .clrerr ∧
  decode 0x10000100 = .ok (.init 256) ∧ decode 0x11000000 = .ok .absorb ∧ decode 0x12000001 = .ok (.final 1) ∧
  decode 0x20028000 = .ok (.gfmul 0x02 0x80) ∧ decode 0x21FFFF00 = .ok (.gftab 0xFF 0xFF) ∧
  decode 0x2203FF00 = .ok (.sbox 3 0xFF) ∧ decode 0x30000000 = .ok .subb ∧ decode 0x31000000 = .ok .shiftr ∧
  decode 0x32000000 = .ok .mixc ∧ decode 0x33050000 = .ok (.addrcp 5) ∧ decode 0x34090000 = .ok (.addrcq 9) ∧
  decode 0x35090000 = .ok (.roundp 9) ∧ decode 0x36000000 = .ok (.roundq 0) ∧ decode 0x40000000 = .ok .permp ∧
  decode 0x41000000 = .ok .permq ∧ decode 0x42000000 = .ok .xorb ∧ decode 0x43000000 = .ok .tcomp ∧
  decode 0x44000000 = .ok .outt ∧ decode 0x45000000 = .ok .trunc ∧
  (["NOP", "SRESET", "CLRERR", "ABSORB", "SUBB", "SHIFTR", "MIXC", "PERMP", "PERMQ", "XORB", "TCOMP", "OUTT",
      "TRUNC"].map fun m => assemble m []) =
    [some .nop, some .sreset, some .clrerr, some .absorb, some .subb, some .shiftr, some .mixc, some .permp,
      some .permq, some .xorb, some .tcomp, some .outt, some .trunc] ∧
  (∀ d, assemble "INIT" [d] = if d < 65536 then some (.init (BitVec.ofNat 16 d)) else none) ∧
  (∀ n, assemble "FINAL" [n] = if n < 256 then some (.final (BitVec.ofNat 8 n)) else none) ∧
  (∀ x y, assemble "GFMUL" [x, y] =
    if x < 256 ∧ y < 256 then some (.gfmul (BitVec.ofNat 8 x) (BitVec.ofNat 8 y)) else none) ∧
  (∀ x y, assemble "GFTAB" [x, y] =
    if x < 256 ∧ y < 256 then some (.gftab (BitVec.ofNat 8 x) (BitVec.ofNat 8 y)) else none) ∧
  (∀ t x, assemble "SBOX" [t, x] =
    if t < 256 ∧ x < 256 then some (.sbox (BitVec.ofNat 8 t) (BitVec.ofNat 8 x)) else none) ∧
  (∀ r, assemble "ADDRCP" [r] = if r < 256 then some (.addrcp (BitVec.ofNat 8 r)) else none) ∧
  (∀ r, assemble "ADDRCQ" [r] = if r < 256 then some (.addrcq (BitVec.ofNat 8 r)) else none) ∧
  (∀ r, assemble "ROUNDP" [r] = if r < 256 then some (.roundp (BitVec.ofNat 8 r)) else none) ∧
  (∀ r, assemble "ROUNDQ" [r] = if r < 256 then some (.roundq (BitVec.ofNat 8 r)) else none)

/-- Each of the 234 opcodes of R305 is rejected with ILLEGAL_OPCODE, whatever the word's other fields hold, and nothing
but the error fields and BUSY changes (R305). -/
def Obligations.IllegalOpcodesRejected : Prop :=
  (∀ (op a b c : Byte) (s : State), s.err = false →
    (0x03 ≤ op.toNat ∧ op.toNat ≤ 0x0F) ∨ (0x13 ≤ op.toNat ∧ op.toNat ≤ 0x1F) ∨
      (0x23 ≤ op.toNat ∧ op.toNat ≤ 0x2F) ∨ (0x37 ≤ op.toNat ∧ op.toNat ≤ 0x3F) ∨ 0x46 ≤ op.toNat →
    step (loadWord (op ++ a ++ b ++ c) s) =
      .next { s with err := true, errcode := 1, errop := op, pending := none }) ∧
  (∀ (op a b c : Byte),
    (∃ e, decode (op ++ a ++ b ++ c) = .error (.illegalOpcode e)) ↔
      (0x03 ≤ op.toNat ∧ op.toNat ≤ 0x0F) ∨ (0x13 ≤ op.toNat ∧ op.toNat ≤ 0x1F) ∨
      (0x23 ≤ op.toNat ∧ op.toNat ≤ 0x2F) ∨ (0x37 ≤ op.toNat ∧ op.toNat ≤ 0x3F) ∨ 0x46 ≤ op.toNat)

/-- A word with an assigned opcode and a must-be-zero bit set is rejected with RESERVED_FIELD, with no other effect
(R304). -/
def Obligations.ReservedFieldsRejected : Prop :=
  ∀ (w : Word) (s : State), s.err = false → opField w ∈ opcodes → w &&& zeroBits (opField w) ≠ 0 →
    step (loadWord w s) =
      .next { s with err := true, errcode := 2, errop := opField w, pending := none }

/-! ## Byte arithmetic (40_gf_sbox.md) -/

/-- The laws of gf_mul that R402 lists: zero, one, commutativity, distributivity, associativity, doubling, the order of
2, and inverses, that of 2 being 0x8E (R402). -/
def Obligations.GfMulFieldLaws : Prop :=
  (∀ x, gfMul x 0 = 0 ∧ gfMul 0 x = 0) ∧
  (∀ x, gfMul x 1 = x ∧ gfMul 1 x = x) ∧
  (∀ x y, gfMul x y = gfMul y x) ∧
  (∀ x y z, gfMul x (y ^^^ z) = gfMul x y ^^^ gfMul x z) ∧
  (∀ x y z, gfMul (gfMul x y) z = gfMul x (gfMul y z)) ∧
  (∀ x : Byte, gfMul x 2 = x <<< 1 ^^^ (if x.getLsbD 7 then 0x1D else 0)) ∧
  (Nat.repeat (gfMul 2) 255 1 = 1 ∧ ∀ k, 0 < k → k < 255 → Nat.repeat (gfMul 2) k 1 ≠ 1) ∧
  (∀ x, x ≠ 0 → ∃ y, gfMul x y = 1) ∧ (∀ y, gfMul 2 y = 1 ↔ y = 0x8E)

/-- GFMUL x, y with ERR = 0 writes gf_mul(x, y) to RESULT and nothing else, with or without a context, and GFTAB x, y
leaves the same state (R403, R404). The product is the XOR, over the bits k of y that are 1, of x doubled k times
(R400). -/
def Obligations.GfmulAndGftabWriteProduct : Prop :=
  ∀ (x y : Byte) (s : State), s.err = false →
    ∃ t, exec (.gfmul x y) s = .next t ∧ exec (.gftab x y) s = .next t ∧ OnlyResult s t ∧
      t.result = (List.range 8).foldl
        (fun acc k => if y.getLsbD k then
            acc ^^^ Nat.repeat (fun v : Byte => v <<< 1 ^^^ (if v.getLsbD 7 then 0x1D else 0)) k x
          else acc) 0

/-- Each S-box is a bijection on bytes without a fixed point, and has the entries of 95_test_vectors.md section 2.2
(R405). -/
def Obligations.SboxesAreBijections : Prop :=
  (∀ t, t < 4 → (∀ y : Byte, ∃ x, sboxAt t x = y) ∧ ∀ x, sboxAt t x ≠ x) ∧
  (List.range 4).map (fun t => [0x00, 0x01, 0x7F, 0x80, 0xFF].map (sboxAt t)) =
    [[0xA8, 0x43, 0x55, 0x9B, 0x80], [0xCE, 0xBB, 0x5F, 0x2A, 0xD7], [0x93, 0xD9, 0x33, 0x87, 0x67],
      [0x68, 0x8D, 0x5B, 0x34, 0x61]]

/-- SBOX t, x with ERR = 0 writes SBOX_t[x] to RESULT and nothing else when t <= 3, and is rejected with
BAD_SBOX_INDEX, RESULT unchanged, when t > 3 (R406). -/
def Obligations.SboxLooksUpOrRejects : Prop :=
  ∀ (t x : Byte) (s : State), s.err = false →
    (t.toNat ≤ 3 → ∃ u, exec (.sbox t x) s = .next u ∧ OnlyResult s u ∧ u.result = sboxAt t.toNat x) ∧
    (3 < t.toNat → exec (.sbox t x) s =
      .next { s with err := true, errcode := 3, errop := 0x22, pending := none })

/-! ## Round layers (41_round_layers.md) -/

/-- SUBB replaces the byte in row i of every column through S-box i mod 4, and changes nothing else (R410). -/
def Obligations.SubbSubstitutesEveryByte : Prop :=
  ∀ s, Working s → ∃ t, exec .subb s = .next t ∧ OnlyState s t ∧
    (∀ j i, j < colsOf s → i < 8 → cell t.state j i = sboxAt (i % 4) (cell s.state j i)) ∧
    (∀ k, 8 * colsOf s ≤ k → k < 128 → byteAt t.state k = byteAt s.state k)

/-- SHIFTR moves the byte in row i of column j to column (j + sh(i, c)) mod c, where sh is 11 for row 7 of 16 columns
and i otherwise, and changes nothing else (R412, R413). -/
def Obligations.ShiftrMovesRows : Prop :=
  ∀ s, Working s → ∃ t, exec .shiftr s = .next t ∧ OnlyState s t ∧
    (∀ j i, j < colsOf s → i < 8 →
      cell t.state ((j + (if i = 7 ∧ colsOf s = 16 then 11 else i)) % colsOf s) i = cell s.state j i) ∧
    (∀ k, 8 * colsOf s ≤ k → k < 128 → byteAt t.state k = byteAt s.state k)

/-- MIXC replaces every column v by MDS · v over GF(2^8), MDS the circulant matrix of first row
(01, 01, 05, 01, 08, 06, 07, 04), and changes nothing else (R415, R416). -/
def Obligations.MixcMultipliesColumnsByMds : Prop :=
  ∀ s, Working s → ∃ t, exec .mixc s = .next t ∧ OnlyState s t ∧
    (∀ j row, j < colsOf s → row < 8 →
      cell t.state j row = (List.range 8).foldl
        (fun acc b => acc ^^^ gfMul (cell s.state j b)
          (([0x01, 0x01, 0x05, 0x01, 0x08, 0x06, 0x07, 0x04] : List Byte).getD ((b + 8 - row) % 8) 0)) 0) ∧
    (∀ k, 8 * colsOf s ≤ k → k < 128 → byteAt t.state k = byteAt s.state k)

/-- ADDRCP r XORs (j * 0x10) ^ r into row 0 of column j, for every r, and changes nothing else (R418). -/
def Obligations.AddrcpXorsRowZero : Prop :=
  ∀ (r : Byte) (s : State), Working s → ∃ t, exec (.addrcp r) s = .next t ∧ OnlyState s t ∧
    (∀ j, j < colsOf s → (cell t.state j 0).toNat = (cell s.state j 0).toNat ^^^ ((j * 0x10) ^^^ r.toNat)) ∧
    (∀ j i, j < colsOf s → 1 ≤ i → i < 8 → cell t.state j i = cell s.state j i) ∧
    (∀ k, 8 * colsOf s ≤ k → k < 128 → byteAt t.state k = byteAt s.state k)

/-- ADDRCQ r adds the constant of column j to the column's 64-bit little-endian value modulo 2^64, for every r, and
changes nothing else (R420). -/
def Obligations.AddrcqAddsColumnConstants : Prop :=
  ∀ (r : Byte) (s : State), Working s → ∃ t, exec (.addrcq r) s = .next t ∧ OnlyState s t ∧
    (∀ j, j < colsOf s →
      (le64 (cell t.state j)).toNat =
        ((le64 (cell s.state j)).toNat +
          (0x00F0F0F0F0F0F0F3 ^^^ ((((colsOf s - j - 1) * 0x10) ^^^ r.toNat) <<< 56))) % 2 ^ 64) ∧
    (∀ k, 8 * colsOf s ≤ k → k < 128 → byteAt t.state k = byteAt s.state k)

/-- ROUNDP r leaves what ADDRCP r, SUBB, SHIFTR, MIXC leave in that order, ROUNDQ r what ADDRCQ r, SUBB, SHIFTR, MIXC
leave, and each changes nothing but STATE (R422; R423, R424 corner cases). -/
def Obligations.RoundIsFourLayers : Prop :=
  ∀ (r : Byte) (s : State), Working s →
    (∃ t, exec (.roundp r) s = .next t ∧ OnlyState s t ∧
      runCommands [.addrcp r, .subb, .shiftr, .mixc] s = .next t) ∧
    (∃ t, exec (.roundq r) s = .next t ∧ OnlyState s t ∧
      runCommands [.addrcq r, .subb, .shiftr, .mixc] s = .next t)

/-- XORB twice and ADDRCP r twice restore STATE, and so does SHIFTR eight times on 8 columns (corner cases of R444,
R419, R414). -/
def Obligations.RepeatedLayersRestoreState : Prop :=
  ∀ s, Working s →
    (∃ t, runCommands [.xorb, .xorb] s = .next t ∧ t.state = s.state) ∧
    (∀ r, ∃ t, runCommands [.addrcp r, .addrcp r] s = .next t ∧ t.state = s.state) ∧
    (colsOf s = 8 → ∃ t, runCommands (List.replicate 8 .shiftr) s = .next t ∧ t.state = s.state)

/-- MixColumns is linear over ^: MIXC of the XOR of two states is the XOR of their MIXCs (R417 corner cases). -/
def Obligations.MixcIsLinear : Prop :=
  ∀ (s : State) (X Y : Buf), Working s →
    ∃ t u v, exec .mixc (setChain X s) = .next t ∧ exec .mixc (setChain Y s) = .next u ∧
      exec .mixc (setChain (xorCells (colsOf s) X Y) s) = .next v ∧
      v.state = xorCells (colsOf s) t.state u.state

/-! ## Permutations, compression, output (42_permutations_compression.md) -/

/-- PERMP leaves what ROUNDP 0, .., ROUNDP n-1 leave, PERMQ what ROUNDQ 0, .., ROUNDQ n-1 leave, n being 10 for 8
columns and 14 for 16, and each changes nothing but STATE (R440, R441). -/
def Obligations.PermutationIsItsRounds : Prop :=
  ∀ s, Working s →
    roundsOf s = (if colsOf s = 8 then 10 else 14) ∧ (colsOf s = 8 ∨ colsOf s = 16) ∧
    (∃ t, exec .permp s = .next t ∧ OnlyState s t ∧
      runCommands ((List.range (roundsOf s)).map fun r => .roundp (BitVec.ofNat 8 r)) s = .next t) ∧
    (∃ t, exec .permq s = .next t ∧ OnlyState s t ∧
      runCommands ((List.range (roundsOf s)).map fun r => .roundq (BitVec.ofNat 8 r)) s = .next t)

/-- XORB XORs BLOCK[0..8c-1] into STATE, byte by byte, and changes nothing else (R444, R9). -/
def Obligations.XorbXorsBlock : Prop :=
  ∀ s, Working s → ∃ t, exec .xorb s = .next t ∧ OnlyState s t ∧
    (∀ k, k < 8 * colsOf s → byteAt t.state k = byteAt s.state k ^^^ byteAt s.block k) ∧
    (∀ k, 8 * colsOf s ≤ k → k < 128 → byteAt t.state k = byteAt s.state k)

/-- TCOMP leaves P(S ^ M) ^ Q(M) ^ S in STATE, P(S ^ M) being what XORB and PERMP leave and Q(M) what PERMQ leaves of
the block, and changes nothing else (R445). -/
def Obligations.TcompIsPXorQXorState : Prop :=
  ∀ s, Working s → ∃ t x y, exec .tcomp s = .next t ∧ OnlyState s t ∧
    runCommands [.xorb, .permp] s = .next x ∧ exec .permq (setChain s.block s) = .next y ∧
    (∀ k, k < 8 * colsOf s → byteAt t.state k = byteAt x.state k ^^^ byteAt y.state k ^^^ byteAt s.state k) ∧
    (∀ k, 8 * colsOf s ≤ k → k < 128 → byteAt t.state k = byteAt s.state k)

/-- OUTT leaves P(S) ^ S in STATE, P(S) being what PERMP leaves, and changes nothing else (R447). -/
def Obligations.OuttXorsPermutedState : Prop :=
  ∀ s, Working s → ∃ t x, exec .outt s = .next t ∧ OnlyState s t ∧ exec .permp s = .next x ∧
    (∀ k, k < 8 * colsOf s → byteAt t.state k = byteAt x.state k ^^^ byteAt s.state k) ∧
    (∀ k, 8 * colsOf s ≤ k → k < 128 → byteAt t.state k = byteAt s.state k)

/-- TRUNC copies the last d = DBITS / 8 of the 8c state bytes to DIGEST[0..d-1], clears the rest of DIGEST and changes
nothing else; 1 <= d <= 8c (R449, R450). -/
def Obligations.TruncTakesTrailingBytes : Prop :=
  ∀ s, Working s → ∃ t, exec .trunc s = .next t ∧ OnlyDigest s t ∧
    1 ≤ digestBytes s ∧ digestBytes s ≤ 8 * colsOf s ∧ digestBytes s ≤ 64 ∧
    (∀ k, k < digestBytes s → byteAt t.digest k = byteAt s.state (8 * colsOf s - digestBytes s + k)) ∧
    (∀ k, digestBytes s ≤ k → k < 64 → byteAt t.digest k = 0)

/-! ## Hash control (43_hash_control.md) -/

/-- NOP completes and leaves every register as it was, in every state (R460). -/
def Obligations.NopChangesNothing : Prop := ∀ s, exec .nop s = .next { s with pending := none }

/-- SRESET gives every element of the core's state its reset value, in every state, ERR = 1 included (R461, R701, R121).
The last three clauses, that the model's own fields `host`, `trace` and `draws` are kept, are the model's choice (log 9). -/
def Obligations.SresetGivesResetValues : Prop :=
  ∀ s, ∃ t, exec .sreset s = .next t ∧
    t.pending = none ∧ statusWord t = 0 ∧ configWord t.config = 0 ∧ t.result = 0 ∧ t.mlen = 0 ∧
    t.cfg = false ∧ t.fin = false ∧ t.err = false ∧ t.ovr = false ∧ t.errcode = 0 ∧ t.errop = 0 ∧
    (∀ k, k < 128 → byteAt t.block k = 0 ∧ byteAt t.state k = 0) ∧ (∀ k, k < 64 → byteAt t.digest k = 0) ∧
    t.host = s.host ∧ t.trace = s.trace ∧ t.draws = s.draws

/-- CLRERR clears ERR, ERRCODE, ERROP and OVR and changes nothing else, in every state, ERR = 1 included (R462). -/
def Obligations.ClrerrClearsErrorFields : Prop :=
  ∀ s, exec .clrerr s =
    .next { s with err := false, errcode := 0, errop := 0, ovr := false, pending := none }

/-- INIT d with ERR = 0 and a valid d, at any time, loads the context of d and the initial state, clears MLEN, DIGEST and
FIN, sets CFG, and changes nothing else (R463, R464, R6). -/
def Obligations.InitLoadsContextAndState : Prop :=
  ∀ (d : BitVec 16) (s : State), s.err = false → d.toNat % 8 = 0 → 8 ≤ d.toNat → d.toNat ≤ 512 →
    ∃ t, exec (.init d) s = .next t ∧
      t = { s with cfg := true, fin := false, mlen := 0, pending := none, config := t.config, state := t.state,
                   digest := t.digest } ∧
      t.config.dbits.toNat = d.toNat ∧
      (d.toNat ≤ 256 → roundsOf t = 10 ∧ colsOf t = 8 ∧ (configWord t.config).toNat = 0x080A0000 + d.toNat) ∧
      (256 < d.toNat → roundsOf t = 14 ∧ colsOf t = 16 ∧ (configWord t.config).toNat = 0x100E0000 + d.toNat) ∧
      (byteAt t.state 0).toNat = 8 * colsOf t ∧ (∀ k, 1 ≤ k → k < 128 → byteAt t.state k = 0) ∧
      (∀ k, k < 64 → byteAt t.digest k = 0)

/-- ABSORB leaves what TCOMP leaves, but for MLEN, which grows by 8B bits without wrapping (R465). -/
def Obligations.AbsorbCompressesAndCounts : Prop :=
  ∀ s, Working s → s.fin = false → s.mlen.toNat + 64 * colsOf s ≤ 2 ^ 64 - 1 →
    ∃ t u, exec .absorb s = .next t ∧ exec .tcomp s = .next u ∧ t = { u with mlen := t.mlen } ∧
      t.mlen.toNat = s.mlen.toNat + 64 * colsOf s

/-- The padding suffix of a tail of n < B bytes: the tail, 0x80, zeros, the bit length as 8 little-endian bytes and 4
zero bytes, B bytes in all when n <= B - 13 and 2B when n >= B - 12 (R466). -/
def Obligations.PaddingFillsWholeBlocks : Prop :=
  ∀ (tail : List Byte) (N : Word64) (B : Nat), B = 64 ∨ B = 128 → tail.length < B →
    (padSuffix tail N B).length = (if tail.length ≤ B - 13 then B else 2 * B) ∧
    (padSuffix tail N B).take tail.length = tail ∧
    (padSuffix tail N B)[tail.length]? = some 0x80 ∧
    (∀ k, tail.length < k → k < (padSuffix tail N B).length - 12 → (padSuffix tail N B)[k]? = some 0) ∧
    (∀ k, k < 8 → (padSuffix tail N B)[(padSuffix tail N B).length - 12 + k]? = some (N.extractLsb' (8 * k) 8)) ∧
    (∀ k, k < 4 → (padSuffix tail N B)[(padSuffix tail N B).length - 4 + k]? = some 0)

/-- FINAL n writes the digest that comes of loading each block of the padding suffix into BLOCK and running TCOMP, and
then OUTT and TRUNC (R467; R450 corner cases). -/
def Obligations.FinalDigestComesFromStages : Prop :=
  ∀ (n : Byte) (s : State), Working s → s.fin = false → n.toNat < 8 * colsOf s →
    s.mlen.toNat + 8 * n.toNat ≤ 2 ^ 64 - 1 →
    ∃ t u v, exec (.final n) s = .next t ∧
      runLoaded .tcomp
        (blocksOf (padSuffix (firstBytes s.block n.toNat) (s.mlen + BitVec.ofNat 64 (8 * n.toNat)) (8 * colsOf s))
          (8 * colsOf s)) s = .next u ∧
      runCommands [.outt, .trunc] u = .next v ∧ t.digest = v.digest

/-- FINAL n clears STATE[0..127], adds 8n to MLEN without wrapping, sets FIN, writes DIGEST with zeros past the digest,
and changes nothing else; n = 0 is legal (R467). -/
def Obligations.FinalClosesComputation : Prop :=
  ∀ (n : Byte) (s : State), Working s → s.fin = false → n.toNat < 8 * colsOf s →
    s.mlen.toNat + 8 * n.toNat ≤ 2 ^ 64 - 1 →
    ∃ t, exec (.final n) s = .next t ∧
      t = { s with fin := true, pending := none, mlen := t.mlen, state := t.state, digest := t.digest } ∧
      t.mlen.toNat = s.mlen.toNat + 8 * n.toNat ∧ (∀ k, k < 128 → byteAt t.state k = 0) ∧
      (∀ k, digestBytes s ≤ k → k < 64 → byteAt t.digest k = 0)

/-- FINAL n does not read BLOCK past the tail: another BLOCK with the same first n bytes gives the same state but for
BLOCK itself, which FINAL leaves alone (R467 corner cases, R708). -/
def Obligations.FinalReadsOnlyTheTail : Prop :=
  ∀ (n : Byte) (s : State) (M : Buf), (∀ k, k < n.toNat → byteAt M k = byteAt s.block k) →
    ∃ t u, exec (.final n) s = .next t ∧ exec (.final n) (setBlock M s) = .next u ∧ u = { t with block := M }

/-- No command reads STATE or BLOCK at index 8c or above: two states that agree below give states that agree on every
register, on STATE below 8c and on the digest (R114, R115, D27). -/
def Obligations.BytesOutsideContextUnread : Prop :=
  ∀ (i : Instr) (s : State) (X M : Buf), LegalContext s →
    AgreeBelow (8 * colsOf s) X s.state → AgreeBelow (8 * colsOf s) M s.block →
    ∃ t u, exec i s = .next t ∧ exec i (setBlock M (setChain X s)) = .next u ∧
      u = { t with state := u.state, block := u.block } ∧ AgreeBelow (8 * colsOf s) u.state t.state

/-- INIT d, ABSORB for every full block of m and FINAL of the tail, from any state with ERR = 0, are accepted and leave
hash(m, d), the one-call function, in DIGEST (R468). -/
def Obligations.CommandsComputeTheHash : Prop :=
  ∀ (m : List Byte) (d : BitVec 16) (s : State) (M : Buf), s.err = false → validDigestBits d = true →
    8 * m.length ≤ 2 ^ 64 - 1 →
    (∀ j, j < m.length % (8 * (contextOf d).cols.toNat) →
      some (byteAt M j) = m[m.length / (8 * (contextOf d).cols.toNat) * (8 * (contextOf d).cols.toNat) + j]?) →
    ∃ a b t, exec (.init d) s = .next a ∧
      runLoaded .absorb (blocksOf m (8 * (contextOf d).cols.toNat)) a = .next b ∧
      exec (.final (BitVec.ofNat 8 (m.length % (8 * (contextOf d).cols.toNat)))) (setBlock M b) = .next t ∧
      a.err = false ∧ b.err = false ∧ t.err = false ∧ t.fin = true ∧
      firstBytes t.digest (d.toNat / 8) = hashOf m d

/-- A digest of d bytes is the trailing d bytes of the digest of the same message at any larger size with the same number
of columns, and has exactly d bytes (R449, R468; 95_test_vectors.md section 2.6). -/
def Obligations.ShorterDigestIsTrailing : Prop :=
  ∀ (m : List Byte) (d e : BitVec 16), validDigestBits d = true → validDigestBits e = true → d.toNat ≤ e.toNat →
    (e.toNat ≤ 256 ∨ 256 < d.toNat) →
    (hashOf m d).length = d.toNat / 8 ∧ hashOf m d = (hashOf m e).drop (e.toNat / 8 - d.toNat / 8)

/-! ## Errors (60_exceptions.md) -/

/-- A latched word completes as the checks of R602 say, in their order: ignored while ERR = 1 unless it is exactly SRESET
or CLRERR; else rejected with the first check's code and no other effect; else the command it decodes to is performed,
with no error (R602). -/
def Obligations.ExecutionFollowsCheckOrder : Prop :=
  ∀ (w : Word) (s : State),
    (s.err = true ∧ w ≠ 0x01000000 ∧ w ≠ 0x02000000 → step (loadWord w s) = .next { s with pending := none }) ∧
    (¬(s.err = true ∧ w ≠ 0x01000000 ∧ w ≠ 0x02000000) →
      (checkOrder w s ≠ 0 → step (loadWord w s) =
        .next { s with err := true, errcode := checkOrder w s, errop := w.extractLsb' 24 8, pending := none }) ∧
      (checkOrder w s = 0 → ∃ i t, decode w = .ok i ∧ step (loadWord w s) = .next t ∧
        exec i (loadWord w s) = .next t ∧ t.err = false ∧ busy t = false))

/-- A rejected command does the error action and nothing else: ERR, ERRCODE, ERROP and BUSY, every other register as it
was (R601). -/
def Obligations.RejectionIsTheErrorAction : Prop :=
  ∀ (w : Word) (s t : State), s.err = false → step (loadWord w s) = .next t → t.err = true →
    t = { s with err := true, errcode := checkOrder w s, errop := w.extractLsb' 24 8, pending := none } ∧
      1 ≤ t.errcode.toNat ∧ t.errcode.toNat ≤ 8

/-- While ERR = 1 every latched word but the exact SRESET and CLRERR completes with no effect, and those two execute
(R603). -/
def Obligations.ErrorBlocksAllButTwoWords : Prop :=
  ∀ s : State, s.err = true →
    (∀ w : Word, w ≠ 0x01000000 → w ≠ 0x02000000 → step (loadWord w s) = .next { s with pending := none }) ∧
    step (loadWord 0x01000000 s) = exec .sreset s ∧ step (loadWord 0x02000000 s) = exec .clrerr s

/-- CFG: INIT sets it; only SRESET and a hard reset clear it; CONFIG is 0 while it is 0; and the fifteen commands that
need a context are then rejected with NOT_CONFIGURED (R107). -/
def Obligations.ContextRule : Prop :=
  (∀ (d : BitVec 16) (s : State), s.err = false → validDigestBits d = true →
    ∃ t, exec (.init d) s = .next t ∧ t.cfg = true) ∧
  (∀ s t, step s = .next t → s.cfg = false →
    (t.cfg = true ↔ s.err = false ∧ ∃ d, validDigestBits d = true ∧ Completes s (encode (.init d)))) ∧
  (∀ s t, step s = .next t → s.cfg = true →
    (t.cfg = false ↔ Completes s 0x01000000 ∨ HostMoves s .hardReset)) ∧
  (∀ s t, step s = .next t → (s.cfg = false → configWord s.config = 0) → t.cfg = false → configWord t.config = 0) ∧
  (∀ (i : Instr) (s : State), opcodeOf i ∈ contextOpcodes → s.err = false → s.cfg = false →
    exec i s = .next { s with err := true, errcode := 5, errop := opcodeOf i, pending := none })

/-- FIN: only a successful FINAL sets it; only a successful INIT, SRESET and a hard reset clear it; while it is 1, ABSORB
and FINAL are rejected with ALREADY_FINALIZED; and no other command reads it (R108). -/
def Obligations.FinalizedRule : Prop :=
  (∀ s t, step s = .next t → s.fin = false →
    (t.fin = true ↔ s.err = false ∧ s.cfg = true ∧ ∃ n : Byte, Completes s (encode (.final n)) ∧
      n.toNat < 8 * colsOf s ∧ s.mlen.toNat + 8 * n.toNat ≤ 2 ^ 64 - 1)) ∧
  (∀ s t, step s = .next t → s.fin = true →
    (t.fin = false ↔ (s.err = false ∧ ∃ d, validDigestBits d = true ∧ Completes s (encode (.init d))) ∨
      Completes s 0x01000000 ∨ HostMoves s .hardReset)) ∧
  (∀ s, s.err = false → s.cfg = true → s.fin = true →
    exec .absorb s = .next { s with err := true, errcode := 6, errop := 0x11, pending := none } ∧
    ∀ n, exec (.final n) s = .next { s with err := true, errcode := 6, errop := 0x12, pending := none }) ∧
  (∀ (i : Instr) (s : State) (b : Bool), i ≠ .absorb → (∀ n, i ≠ .final n) →
    ∃ t u, exec i s = .next t ∧ exec i { s with fin := b } = .next u ∧ u = { t with fin := u.fin })

/-- ERR, ERRCODE and ERROP change only by the error action of a command that was not ignored, and by CLRERR, SRESET and a
hard reset, which clear all three (R109). -/
def Obligations.ErrorFieldsWriters : Prop :=
  ∀ s t, step s = .next t →
    ((t.err = s.err ∧ t.errcode = s.errcode ∧ t.errop = s.errop) ∨
      (s.err = false ∧ t.err = true ∧ ∃ w, Completes s w ∧ t.errcode = checkOrder w s ∧ t.errop = w.extractLsb' 24 8) ∨
      Completes s 0x02000000 ∨ Completes s 0x01000000 ∨ HostMoves s .hardReset) ∧
    (Completes s 0x02000000 ∨ Completes s 0x01000000 ∨ HostMoves s .hardReset →
      t.err = false ∧ t.errcode = 0 ∧ t.errop = 0)

/-- OVR: a host write while BUSY = 1 sets it, and nothing else does; only CLRERR, SRESET and a hard reset clear it; and
it blocks no command (R110). -/
def Obligations.OverrunRule : Prop :=
  (∀ s a v, HostMoves s (.write a v) → busy s = true → ∃ t, step s = .next t ∧ t.ovr = true) ∧
  (∀ s t, step s = .next t → s.ovr = false → t.ovr = true → busy s = true ∧ ∃ a v, HostMoves s (.write a v)) ∧
  (∀ s t, step s = .next t → s.ovr = true →
    (t.ovr = false ↔ Completes s 0x02000000 ∨ Completes s 0x01000000 ∨ HostMoves s .hardReset)) ∧
  (∀ (i : Instr) (s : State) (b : Bool),
    ∃ t u, exec i s = .next t ∧ exec i { s with ovr := b } = .next u ∧ u = { t with ovr := u.ovr })

/-! ## Registers and their writers (10_state.md) -/

/-- Every command completes and clears BUSY: success, rejection or ignored, in every state (R106, R11, R704).
The last three clauses, that the model's own fields `host`, `trace` and `draws` are kept, are the model's choice: the
host makes no move in a completion step (log 2), and SRESET keeps the three fields (log 9). -/
def Obligations.EveryCommandCompletes : Prop :=
  ∀ (i : Instr) (s : State), ∃ t, exec i s = .next t ∧ busy t = false ∧ t.host = s.host ∧ t.trace = s.trace ∧
    t.draws = s.draws

/-- Which commands can change BLOCK, CONFIG, RESULT, MLEN, DIGEST and STATE (R111, R112, R113, R114, R115, R116). -/
def Obligations.RegistersChangeOnlyByTheirCommands : Prop :=
  ∀ (i : Instr) (s t : State), exec i s = .next t →
    (t.block ≠ s.block → i = .sreset) ∧
    (t.config ≠ s.config → i = .sreset ∨ ∃ d, i = .init d) ∧
    (t.result ≠ s.result → i = .sreset ∨ (∃ x y, i = .gfmul x y) ∨ (∃ x y, i = .gftab x y) ∨ ∃ n x, i = .sbox n x) ∧
    (t.mlen ≠ s.mlen → i = .sreset ∨ (∃ d, i = .init d) ∨ i = .absorb ∨ ∃ n, i = .final n) ∧
    (t.digest ≠ s.digest → i = .sreset ∨ (∃ d, i = .init d) ∨ i = .trunc ∨ ∃ n, i = .final n) ∧
    (t.state ≠ s.state → i ≠ .nop ∧ i ≠ .clrerr ∧ i ≠ .trunc ∧ (∀ x y, i ≠ .gfmul x y) ∧ (∀ x y, i ≠ .gftab x y) ∧
      ∀ n x, i ≠ .sbox n x)

/-- The host can write no control register: a move of the host that is no hard reset leaves CFG, FIN, the error fields,
CONFIG, RESULT, MLEN and DIGEST as they were, and STATE and BLOCK too unless it is an accepted write (R102). -/
def Obligations.HostWritesNoControlRegister : Prop :=
  ∀ s op, HostMoves s op → op ≠ .hardReset →
    ∃ t, step s = .next t ∧ t.cfg = s.cfg ∧ t.fin = s.fin ∧ t.err = s.err ∧ t.errcode = s.errcode ∧
      t.errop = s.errop ∧ t.config = s.config ∧ t.result = s.result ∧ t.mlen = s.mlen ∧ t.digest = s.digest ∧
      (t.block ≠ s.block → busy s = false ∧ ∃ a v q, op = .write a v ∧ regAt a = some (.block q)) ∧
      (t.state ≠ s.state → busy s = false ∧ ∃ a v q, op = .write a v ∧ regAt a = some (.state q))

/-- The fields of the STATUS and CONFIG words stand where R105 and R111 put them, and reserved bits read as 0
(R105, R111). -/
def Obligations.StatusAndConfigLayout : Prop :=
  ∀ s : State,
    (statusWord s).toNat = (busy s).toNat + 2 * s.cfg.toNat + 4 * s.fin.toNat + 8 * s.err.toNat + 16 * s.ovr.toNat +
      2 ^ 8 * s.errcode.toNat + 2 ^ 16 * s.errop.toNat ∧
    (configWord s.config).toNat = s.config.dbits.toNat + 2 ^ 16 * s.config.rounds.toNat +
      2 ^ 24 * s.config.cols.toNat

/-! ## The host port (20_memory.md) -/

/-- The mapped aligned addresses are those of R201, and the registers stand at the offsets of R101. -/
def Obligations.AddressMapDecodes : Prop :=
  (∀ a : Addr, (regAt a).isSome ↔ a.toNat % 4 = 0 ∧
    (a.toNat ∈ [0x000, 0x004, 0x008, 0x00C, 0x010, 0x018, 0x01C] ∨ (0x080 ≤ a.toNat ∧ a.toNat ≤ 0x0FC) ∨
      (0x100 ≤ a.toNat ∧ a.toNat ≤ 0x17C) ∨ (0x180 ≤ a.toNat ∧ a.toNat ≤ 0x1BC))) ∧
  [0x000, 0x004, 0x008, 0x00C, 0x010, 0x018, 0x01C].map regAt =
    [some .id, some .cmd, some .status, some .config, some .result, some .mlenLo, some .mlenHi] ∧
  (∀ q, q < 32 → regAt (BitVec.ofNat 10 (0x080 + 4 * q)) = some (.block q) ∧
    regAt (BitVec.ofNat 10 (0x100 + 4 * q)) = some (.state q)) ∧
  (∀ q, q < 16 → regAt (BitVec.ofNat 10 (0x180 + 4 * q)) = some (.digest q))

/-- A host read while the core is idle gives the register's value with OKAY and has no side effect: ID, CMD (0), STATUS,
CONFIG, RESULT, MLEN, and the array words little-endian (R202, R203, R205; R103, R104, R112, R113). -/
def Obligations.IdleReadsGiveRegisters : Prop :=
  ∀ (s : State) (a : Addr) (rest : List HostOp) (r : HostReg), s.pending = none → s.host = .read a :: rest →
    regAt a = some r →
    ∃ data, step s = .next { s with host := rest, trace := .ofRead .okay data :: s.trace } ∧
      (r = .id → data = 0x5A504831) ∧ (r = .cmd → data = 0) ∧ (r = .status → data = statusWord s) ∧
      (r = .config → data = configWord s.config) ∧ (r = .result → data.toNat = s.result.toNat) ∧
      (r = .mlenLo → data.toNat = s.mlen.toNat % 2 ^ 32) ∧ (r = .mlenHi → data.toNat = s.mlen.toNat / 2 ^ 32) ∧
      (∀ q t, r = .block q → t < 4 → data.extractLsb' (8 * t) 8 = byteAt s.block (4 * q + t)) ∧
      (∀ q t, r = .state q → t < 4 → data.extractLsb' (8 * t) 8 = byteAt s.state (4 * q + t)) ∧
      (∀ q t, r = .digest q → t < 4 → data.extractLsb' (8 * t) 8 = byteAt s.digest (4 * q + t))

/-- A write of v to a word of BLOCK or STATE while the core is idle stores v's four bytes, least significant first, and
changes no other byte and no other register; a read of that word then gives v (R102, R203, R205). -/
def Obligations.ArrayWriteReadsBack : Prop :=
  ∀ (s : State) (a : Addr) (v : Word) (rest : List HostOp), s.pending = none → s.host = .write a v :: .read a :: rest →
    (∀ q, regAt a = some (.block q) → ∃ t u, step s = .next t ∧
      t = { s with block := t.block, host := .read a :: rest, trace := .ofWrite .okay :: s.trace } ∧
      (∀ k, k < 4 → byteAt t.block (4 * q + k) = v.extractLsb' (8 * k) 8) ∧
      (∀ k, k < 128 → k / 4 ≠ q → byteAt t.block k = byteAt s.block k) ∧
      step t = .next u ∧ u = { t with host := rest, trace := .ofRead .okay v :: t.trace }) ∧
    (∀ q, regAt a = some (.state q) → ∃ t u, step s = .next t ∧
      t = { s with state := t.state, host := .read a :: rest, trace := .ofWrite .okay :: s.trace } ∧
      (∀ k, k < 4 → byteAt t.state (4 * q + k) = v.extractLsb' (8 * k) 8) ∧
      (∀ k, k < 128 → k / 4 ≠ q → byteAt t.state k = byteAt s.state k) ∧
      step t = .next u ∧ u = { t with host := rest, trace := .ofRead .okay v :: t.trace })

/-- An access to a misaligned or reserved address, and a write to a read-only register, gets SLVERR and changes nothing;
a read then returns data 0, and it does so while BUSY = 1 too; while BUSY = 1 a write is discarded with OKAY and sets OVR instead (R204). -/
def Obligations.RefusedAccessesChangeNothing : Prop :=
  (∀ (s : State) (a : Addr) (rest : List HostOp), s.pending = none → s.host = .read a :: rest → regAt a = none →
    step s = .next { s with host := rest, trace := .ofRead .slverr 0 :: s.trace }) ∧
  (∀ (s : State) (p : Pending) (a : Addr) (rest : List HostOp), s.pending = some p → 1 < p.left →
    s.host = .read a :: rest → regAt a = none →
    step s = .next { s with pending := some { p with left := p.left - 1 }, host := rest,
                            trace := .ofRead .slverr 0 :: s.trace }) ∧
  (∀ (s : State) (a : Addr) (v : Word) (rest : List HostOp), s.pending = none → s.host = .write a v :: rest →
    (regAt a = none ∨ (∃ r, regAt a = some r ∧ r ≠ .cmd ∧ (∀ q, r ≠ .block q) ∧ ∀ q, r ≠ .state q)) →
    step s = .next { s with host := rest, trace := .ofWrite .slverr :: s.trace }) ∧
  (∀ (s : State) (p : Pending) (a : Addr) (v : Word) (rest : List HostOp), s.pending = some p → 1 < p.left →
    s.host = .write a v :: rest →
    step s = .next { s with pending := some { p with left := p.left - 1 }, ovr := true, host := rest,
                            trace := .ofWrite .okay :: s.trace })

/-- A host read while BUSY = 1: STATUS is right, with BUSY = 1; any other mapped register gives some value, with OKAY and
no side effect on the core; a misaligned or reserved address gives SLVERR (R706). The value is a free value (log 4). -/
def Obligations.BusyReads : Prop :=
  ∀ (s : State) (p : Pending) (a : Addr) (rest : List HostOp), s.pending = some p → 1 < p.left →
    s.host = .read a :: rest →
    (regAt a = some .status → ∃ data, data = statusWord s ∧ data.getLsbD 0 = true ∧
      step s = .next { s with pending := some { p with left := p.left - 1 }, host := rest,
                              trace := .ofRead .okay data :: s.trace }) ∧
    (∀ r, regAt a = some r → r ≠ .status → ∃ data,
      step s = .next { s with pending := some { p with left := p.left - 1 }, host := rest,
                              trace := .ofRead .okay data :: s.trace, draws := s.draws + 1 }) ∧
    (regAt a = none →
      step s = .next { s with pending := some { p with left := p.left - 1 }, host := rest,
                              trace := .ofRead .slverr 0 :: s.trace })

/-- A write of w to CMD while BUSY = 0 latches w, sets BUSY to 1 for at least one step, and changes no other register
(R104, R704). That the number of steps is drawn, and the draw counted, is the model's choice (log 3). -/
def Obligations.CmdWriteLatches : Prop :=
  ∀ (s : State) (w : Word) (rest : List HostOp), s.pending = none → s.host = .write 0x004 w :: rest →
    ∃ t n, step s = .next t ∧ 1 ≤ n ∧ busy t = true ∧
      t = { s with pending := some { word := w, left := n }, host := rest, trace := .ofWrite .okay :: s.trace,
                   draws := s.draws + 1 }

/-! ## Steps, reset and time (70_reset_and_hazards.md) -/

/-- The completion step of a latched word that decodes to i is exec of i, with nothing around it; a word placed for the
next step is latched with one step to go (R602, R703; log 1). -/
def Obligations.StepRunsTheDecodedCommand : Prop :=
  (∀ (s : State) (p : Pending) (i : Instr), s.pending = some p → p.left ≤ 1 → decode p.word = .ok i →
    step s = exec i s) ∧
  (∀ (s : State) (i : Instr),
    step (s.withFetchWord 32 (encode i).toNat) =
      exec i { s with pending := some { word := encode i, left := 1 } })

/-- Every state has a next state; a core with no command and a host with nothing to do stays as it is (R612, R11; the
closing paragraph of 93_implementation_defined.md). -/
def Obligations.StepAlwaysHasNextState : Prop :=
  (∀ s, ∃ t, step s = .next t) ∧ (∀ s, s.pending = none → s.host = [] → step s = .next s)

/-- A hard reset, whenever the host makes it, BUSY or not and whatever the state (the unknown state after power-on
included), ends the command without its effects and gives every element its reset value (R700, R121). That the reset is
one of the host's moves, between completion steps, and keeps `trace`, `draws` and the moves to come is the model's
choice (log 2, log 9). -/
def Obligations.HardResetFromAnyState : Prop :=
  ∀ s rest, (∀ p, s.pending = some p → 1 < p.left) → s.host = .hardReset :: rest →
    step s = .next { State.reset with host := rest, trace := s.trace, draws := s.draws } ∧
    statusWord State.reset = 0 ∧ configWord State.reset.config = 0 ∧ State.reset.pending = none ∧
    State.reset.result = 0 ∧ State.reset.mlen = 0 ∧
    (∀ k, k < 128 → byteAt State.reset.block k = 0 ∧ byteAt State.reset.state k = 0) ∧
    (∀ k, k < 64 → byteAt State.reset.digest k = 0)

/-- Every latched command completes: with n + 1 steps to go and no hard reset among the host's next n moves, BUSY is 1
for each of the next n steps and 0 after the step that follows them (R704). What one step is, is the model's choice
(log 2). -/
def Obligations.LatchedCommandCompletes : Prop :=
  ∀ (n : Nat) (w : Word) (s : State), HostOp.hardReset ∉ s.host.take n →
    (∀ k, k ≤ n → ∃ t, Host.Core.run core k (setPending { word := w, left := n + 1 } s) = .next t ∧
      t.pending = some { word := w, left := n + 1 - k }) ∧
    ∃ t, Host.Core.run core (n + 1) (setPending { word := w, left := n + 1 } s) = .next t ∧ busy t = false

/-- How long a command takes changes no register (R710, R703). Whatever the host does in the n steps before the
completion step, a hard reset apart, the core's state after it is that of a command that completes at once, but for OVR;
with no write among the host's moves (it reads, waits or idles) OVR is the same too; and with a host that makes no move
the whole states are equal. What one step is, and the fields `host`, `trace` and `draws`, are the model's choice
(log 1, log 2, log 7). -/
def Obligations.ResultIndependentOfLatency : Prop :=
  ∀ (n : Nat) (w : Word) (s : State), HostOp.hardReset ∉ s.host.take n →
    ∃ t u, Host.Core.run core (n + 1) (setPending { word := w, left := n + 1 } s) = .next t ∧
      step (loadWord w s) = .next u ∧
      t = { u with ovr := t.ovr, host := t.host, trace := t.trace, draws := t.draws } ∧
      ((∀ a v, HostOp.write a v ∉ s.host.take n) → t.ovr = u.ovr) ∧
      (s.host = [] → t = u)

/-- The invariant holds right after a hard reset (R121; R111, R116, R600, R704). -/
def Obligations.InvariantAtReset : Prop := CoreInv State.reset

/-- Every step keeps the invariant: CONFIG takes only its listed values, only the eight codes are recorded, FIN needs a
context, DIGEST is 0 past the digest, MLEN counts whole bytes, a latched command has a step to go (R111, R107, R600,
R108, R116, R113, R704). -/
def Obligations.StepKeepsInvariant : Prop := ∀ s t, CoreInv s → step s = .next t → CoreInv t

/-- RDDIGEST k on an idle core, k at most 64: its ceil(k/4) reads leave every register of the core as it was, and their
words, split little-endian and cut to k bytes, are DIGEST[0..k-1] (R308, R203). The record of responses is the model's own
(log 7). -/
def Obligations.RddigestReadsTheDigest : Prop :=
  ∀ (k : Nat) (s : State) (rest : List HostOp), k ≤ 64 → s.pending = none → s.host = progReadDigest k ++ rest →
    ∃ t, Host.Core.run core ((k + 3) / 4) s = .next t ∧ t = { s with host := rest, trace := t.trace } ∧
      readDigestBytes k t.trace = firstBytes s.digest k
end

