-- ==== Sys2Proof/Laws/Bytes.lean ====
section
/-! SUPPORT. Reads and writes of byte arrays by index, column and row. -/

namespace Sys2Proof.Machine

theorem byteAt_lt {n : Nat} (X : Vector Byte n) {k : Nat} (h : k < n) : byteAt X k = X[k] := by
  simp [byteAt, h]

/-- A byte of `mapCells`: replaced inside the state, kept at index 8c and above (00_scope.md R10). -/
theorem byteAt_mapCells (c : Nat) (X : Buf) (f : Nat → Nat → Byte) {k : Nat} (h : k < 128) :
    byteAt (mapCells c X f) k = if k < 8 * c then f (k / 8) (k % 8) else byteAt X k := by
  simp [byteAt, h, mapCells]

/-- Row i of column j of `mapCells`, in a state of c columns. -/
theorem cell_mapCells {c : Nat} (X : Buf) (f : Nat → Nat → Byte) {j i : Nat} (hc : c ≤ 16) (hj : j < c) (hi : i < 8) :
    cell (mapCells c X f) j i = f j i := by
  rw [cell, byteAt_mapCells _ _ _ (by omega), if_pos (by omega)]
  congr 1 <;> omega

/-- `mapCells` keeps every byte outside the state (10_state.md R115). -/
theorem byteAt_mapCells_outside {c : Nat} (X : Buf) (f : Nat → Nat → Byte) {k : Nat} (hk : 8 * c ≤ k) (h : k < 128) :
    byteAt (mapCells c X f) k = byteAt X k := by
  rw [byteAt_mapCells _ _ _ h, if_neg (by omega)]

/-- A byte by its index is the cell of its column and row (00_scope.md R8). -/
theorem byteAt_eq_cell (X : Buf) (k : Nat) : byteAt X k = cell X (k / 8) (k % 8) := by
  rw [cell]; congr 1; omega

/-- Arrays that agree on every byte are equal. -/
theorem buf_ext {X Y : Buf} (h : ∀ k, k < 128 → byteAt X k = byteAt Y k) : X = Y := by
  apply Vector.ext
  intro k hk
  have := h k hk
  rwa [byteAt_lt _ hk, byteAt_lt _ hk] at this

/-- Two uses of `mapCells` that agree inside the state are equal. -/
theorem mapCells_congr {c : Nat} {X : Buf} {f g : Nat → Nat → Byte}
    (h : ∀ j, j < c → ∀ i, i < 8 → f j i = g j i) : mapCells c X f = mapCells c X g := by
  apply buf_ext
  intro k hk
  rw [byteAt_mapCells _ _ _ hk, byteAt_mapCells _ _ _ hk]
  split
  · exact h _ (by omega) _ (by omega)
  · rfl

/-! Every layer keeps the bytes outside the state (41_round_layers.md, its opening paragraph). -/

section Outside
variable {c : Nat} (X : Buf) {k : Nat} (hk : 8 * c ≤ k) (h : k < 128)
include hk h

theorem subBytes_outside : byteAt (subBytes c X) k = byteAt X k := byteAt_mapCells_outside _ _ hk h
theorem shiftRows_outside : byteAt (shiftRows c X) k = byteAt X k := byteAt_mapCells_outside _ _ hk h
theorem mixColumns_outside : byteAt (mixColumns c X) k = byteAt X k := byteAt_mapCells_outside _ _ hk h
theorem addRcP_outside (r : Byte) : byteAt (addRcP c r X) k = byteAt X k := byteAt_mapCells_outside _ _ hk h
theorem addRcQ_outside (r : Byte) : byteAt (addRcQ c r X) k = byteAt X k := byteAt_mapCells_outside _ _ hk h
theorem xorCells_outside (Y : Buf) : byteAt (xorCells c X Y) k = byteAt X k := byteAt_mapCells_outside _ _ hk h

theorem roundP_outside (r : Byte) : byteAt (roundP c r X) k = byteAt X k := by
  rw [roundP, mixColumns_outside _ hk h, shiftRows_outside _ hk h, subBytes_outside _ hk h, addRcP_outside _ hk h]

theorem roundQ_outside (r : Byte) : byteAt (roundQ c r X) k = byteAt X k := by
  rw [roundQ, mixColumns_outside _ hk h, shiftRows_outside _ hk h, subBytes_outside _ hk h, addRcQ_outside _ hk h]

omit hk h in
theorem foldRounds_outside (f : Byte → Buf → Buf) (hf : ∀ r Y, byteAt (f r Y) k = byteAt Y k) (l : List Nat) :
    byteAt (l.foldl (fun Y r => f (BitVec.ofNat 8 r) Y) X) k = byteAt X k := by
  induction l generalizing X with
  | nil => rfl
  | cons a l ih => rw [List.foldl_cons, ih, hf]

theorem permP_outside (n : Nat) : byteAt (permP n c X) k = byteAt X k :=
  foldRounds_outside X (roundP c) (fun r Y => roundP_outside Y hk h r) _

theorem permQ_outside (n : Nat) : byteAt (permQ n c X) k = byteAt X k :=
  foldRounds_outside X (roundQ c) (fun r Y => roundQ_outside Y hk h r) _

theorem compress_outside (n : Nat) (M : Buf) : byteAt (compress n c X M) k = byteAt X k := by
  rw [compress, xorCells_outside _ hk h, xorCells_outside _ hk h, permP_outside _ hk h, xorCells_outside _ hk h]

theorem outputTransform_outside (n : Nat) : byteAt (outputTransform n c X) k = byteAt X k := by
  rw [outputTransform, xorCells_outside _ hk h, permP_outside _ hk h]

end Outside

/-- P over one more round (42_permutations_compression.md R440). -/
theorem permP_succ (n c : Nat) (X : Buf) : permP (n + 1) c X = roundP c (BitVec.ofNat 8 n) (permP n c X) := by
  simp [permP, List.range_succ]

/-- Q over one more round (42_permutations_compression.md R441). -/
theorem permQ_succ (n c : Nat) (X : Buf) : permQ (n + 1) c X = roundQ c (BitVec.ofNat 8 n) (permQ n c X) := by
  simp [permQ, List.range_succ]

/-- A byte of an array after a word write (20_memory.md R203). -/
theorem byteAt_storeWord (X : Buf) (q : Nat) (v : Word) {k : Nat} (h : k < 128) :
    byteAt (storeWord X q v) k = if k / 4 = q then v.extractLsb' (8 * (k % 4)) 8 else byteAt X k := by
  simp [byteAt, h, storeWord]

/-- With d ≤ 8c, as for every CONFIG that 10_state.md R111 lists, a byte of the truncation is a byte of the state. -/
theorem trailingByte_eq {c d : Nat} (hd : d ≤ 8 * c) (k : Nat) (F : Buf) :
    trailingByte c d k F = byteAt F (8 * c - d + k) := by
  unfold trailingByte
  rw [if_pos (by omega), Nat.sub_add_comm hd]

/-- A byte of the digest layout (42_permutations_compression.md R450). -/
theorem byteAt_truncDigest {c d : Nat} (hd : d ≤ 8 * c) (F : Buf) {k : Nat} (h : k < 64) :
    byteAt (truncDigest c d F) k = if k < d then byteAt F (8 * c - d + k) else 0 := by
  rw [byteAt_lt _ h]
  simp [truncDigest, trailingByte_eq hd]

/-- DIGEST is 0 past the digest, whatever CONFIG holds (10_state.md R116). -/
theorem byteAt_truncDigest_past {c d : Nat} (F : Buf) {k : Nat} (hk : d ≤ k) (h : k < 64) :
    byteAt (truncDigest c d F) k = 0 := by
  rw [byteAt_lt _ h]
  simp [truncDigest, Nat.not_lt.mpr hk]

end Sys2Proof.Machine
end

