-- ==== Sys2Proof/Laws/State.lean ====
section
/-! SUPPORT. One lemma per field per update of the state, each true by rfl, so that no proof unfolds a record update. -/

namespace Sys2Proof.Machine

/-! `complete` -/

@[simp] theorem complete_pending (s : State) : (complete s).pending = none := rfl
@[simp] theorem complete_cfg (s : State) : (complete s).cfg = s.cfg := rfl
@[simp] theorem complete_fin (s : State) : (complete s).fin = s.fin := rfl
@[simp] theorem complete_err (s : State) : (complete s).err = s.err := rfl
@[simp] theorem complete_ovr (s : State) : (complete s).ovr = s.ovr := rfl
@[simp] theorem complete_errcode (s : State) : (complete s).errcode = s.errcode := rfl
@[simp] theorem complete_errop (s : State) : (complete s).errop = s.errop := rfl
@[simp] theorem complete_config (s : State) : (complete s).config = s.config := rfl
@[simp] theorem complete_result (s : State) : (complete s).result = s.result := rfl
@[simp] theorem complete_mlen (s : State) : (complete s).mlen = s.mlen := rfl
@[simp] theorem complete_block (s : State) : (complete s).block = s.block := rfl
@[simp] theorem complete_state (s : State) : (complete s).state = s.state := rfl
@[simp] theorem complete_digest (s : State) : (complete s).digest = s.digest := rfl
@[simp] theorem complete_host (s : State) : (complete s).host = s.host := rfl
@[simp] theorem complete_trace (s : State) : (complete s).trace = s.trace := rfl
@[simp] theorem complete_draws (s : State) : (complete s).draws = s.draws := rfl

/-! `setPending` -/

@[simp] theorem setPending_pending (p : Pending) (s : State) : (setPending p s).pending = some p := rfl
@[simp] theorem setPending_cfg (p : Pending) (s : State) : (setPending p s).cfg = s.cfg := rfl
@[simp] theorem setPending_fin (p : Pending) (s : State) : (setPending p s).fin = s.fin := rfl
@[simp] theorem setPending_err (p : Pending) (s : State) : (setPending p s).err = s.err := rfl
@[simp] theorem setPending_ovr (p : Pending) (s : State) : (setPending p s).ovr = s.ovr := rfl
@[simp] theorem setPending_errcode (p : Pending) (s : State) : (setPending p s).errcode = s.errcode := rfl
@[simp] theorem setPending_errop (p : Pending) (s : State) : (setPending p s).errop = s.errop := rfl
@[simp] theorem setPending_config (p : Pending) (s : State) : (setPending p s).config = s.config := rfl
@[simp] theorem setPending_result (p : Pending) (s : State) : (setPending p s).result = s.result := rfl
@[simp] theorem setPending_mlen (p : Pending) (s : State) : (setPending p s).mlen = s.mlen := rfl
@[simp] theorem setPending_block (p : Pending) (s : State) : (setPending p s).block = s.block := rfl
@[simp] theorem setPending_state (p : Pending) (s : State) : (setPending p s).state = s.state := rfl
@[simp] theorem setPending_digest (p : Pending) (s : State) : (setPending p s).digest = s.digest := rfl
@[simp] theorem setPending_host (p : Pending) (s : State) : (setPending p s).host = s.host := rfl
@[simp] theorem setPending_trace (p : Pending) (s : State) : (setPending p s).trace = s.trace := rfl
@[simp] theorem setPending_draws (p : Pending) (s : State) : (setPending p s).draws = s.draws := rfl

/-! `markError` -/

@[simp] theorem markError_pending (e : ErrorCode) (op : Byte) (s : State) : (markError e op s).pending = s.pending := rfl
@[simp] theorem markError_cfg (e : ErrorCode) (op : Byte) (s : State) : (markError e op s).cfg = s.cfg := rfl
@[simp] theorem markError_fin (e : ErrorCode) (op : Byte) (s : State) : (markError e op s).fin = s.fin := rfl
@[simp] theorem markError_err (e : ErrorCode) (op : Byte) (s : State) : (markError e op s).err = true := rfl
@[simp] theorem markError_ovr (e : ErrorCode) (op : Byte) (s : State) : (markError e op s).ovr = s.ovr := rfl
@[simp] theorem markError_errcode (e : ErrorCode) (op : Byte) (s : State) : (markError e op s).errcode = errorNumber e := rfl
@[simp] theorem markError_errop (e : ErrorCode) (op : Byte) (s : State) : (markError e op s).errop = op := rfl
@[simp] theorem markError_config (e : ErrorCode) (op : Byte) (s : State) : (markError e op s).config = s.config := rfl
@[simp] theorem markError_result (e : ErrorCode) (op : Byte) (s : State) : (markError e op s).result = s.result := rfl
@[simp] theorem markError_mlen (e : ErrorCode) (op : Byte) (s : State) : (markError e op s).mlen = s.mlen := rfl
@[simp] theorem markError_block (e : ErrorCode) (op : Byte) (s : State) : (markError e op s).block = s.block := rfl
@[simp] theorem markError_state (e : ErrorCode) (op : Byte) (s : State) : (markError e op s).state = s.state := rfl
@[simp] theorem markError_digest (e : ErrorCode) (op : Byte) (s : State) : (markError e op s).digest = s.digest := rfl
@[simp] theorem markError_host (e : ErrorCode) (op : Byte) (s : State) : (markError e op s).host = s.host := rfl
@[simp] theorem markError_trace (e : ErrorCode) (op : Byte) (s : State) : (markError e op s).trace = s.trace := rfl
@[simp] theorem markError_draws (e : ErrorCode) (op : Byte) (s : State) : (markError e op s).draws = s.draws := rfl

/-! `clearErrors` -/

@[simp] theorem clearErrors_pending (s : State) : (clearErrors s).pending = s.pending := rfl
@[simp] theorem clearErrors_cfg (s : State) : (clearErrors s).cfg = s.cfg := rfl
@[simp] theorem clearErrors_fin (s : State) : (clearErrors s).fin = s.fin := rfl
@[simp] theorem clearErrors_err (s : State) : (clearErrors s).err = false := rfl
@[simp] theorem clearErrors_ovr (s : State) : (clearErrors s).ovr = false := rfl
@[simp] theorem clearErrors_errcode (s : State) : (clearErrors s).errcode = 0 := rfl
@[simp] theorem clearErrors_errop (s : State) : (clearErrors s).errop = 0 := rfl
@[simp] theorem clearErrors_config (s : State) : (clearErrors s).config = s.config := rfl
@[simp] theorem clearErrors_result (s : State) : (clearErrors s).result = s.result := rfl
@[simp] theorem clearErrors_mlen (s : State) : (clearErrors s).mlen = s.mlen := rfl
@[simp] theorem clearErrors_block (s : State) : (clearErrors s).block = s.block := rfl
@[simp] theorem clearErrors_state (s : State) : (clearErrors s).state = s.state := rfl
@[simp] theorem clearErrors_digest (s : State) : (clearErrors s).digest = s.digest := rfl
@[simp] theorem clearErrors_host (s : State) : (clearErrors s).host = s.host := rfl
@[simp] theorem clearErrors_trace (s : State) : (clearErrors s).trace = s.trace := rfl
@[simp] theorem clearErrors_draws (s : State) : (clearErrors s).draws = s.draws := rfl

/-! `setResult` -/

@[simp] theorem setResult_pending (b : Byte) (s : State) : (setResult b s).pending = s.pending := rfl
@[simp] theorem setResult_cfg (b : Byte) (s : State) : (setResult b s).cfg = s.cfg := rfl
@[simp] theorem setResult_fin (b : Byte) (s : State) : (setResult b s).fin = s.fin := rfl
@[simp] theorem setResult_err (b : Byte) (s : State) : (setResult b s).err = s.err := rfl
@[simp] theorem setResult_ovr (b : Byte) (s : State) : (setResult b s).ovr = s.ovr := rfl
@[simp] theorem setResult_errcode (b : Byte) (s : State) : (setResult b s).errcode = s.errcode := rfl
@[simp] theorem setResult_errop (b : Byte) (s : State) : (setResult b s).errop = s.errop := rfl
@[simp] theorem setResult_config (b : Byte) (s : State) : (setResult b s).config = s.config := rfl
@[simp] theorem setResult_result (b : Byte) (s : State) : (setResult b s).result = b := rfl
@[simp] theorem setResult_mlen (b : Byte) (s : State) : (setResult b s).mlen = s.mlen := rfl
@[simp] theorem setResult_block (b : Byte) (s : State) : (setResult b s).block = s.block := rfl
@[simp] theorem setResult_state (b : Byte) (s : State) : (setResult b s).state = s.state := rfl
@[simp] theorem setResult_digest (b : Byte) (s : State) : (setResult b s).digest = s.digest := rfl
@[simp] theorem setResult_host (b : Byte) (s : State) : (setResult b s).host = s.host := rfl
@[simp] theorem setResult_trace (b : Byte) (s : State) : (setResult b s).trace = s.trace := rfl
@[simp] theorem setResult_draws (b : Byte) (s : State) : (setResult b s).draws = s.draws := rfl

/-! `setMlen` -/

@[simp] theorem setMlen_pending (v : Word64) (s : State) : (setMlen v s).pending = s.pending := rfl
@[simp] theorem setMlen_cfg (v : Word64) (s : State) : (setMlen v s).cfg = s.cfg := rfl
@[simp] theorem setMlen_fin (v : Word64) (s : State) : (setMlen v s).fin = s.fin := rfl
@[simp] theorem setMlen_err (v : Word64) (s : State) : (setMlen v s).err = s.err := rfl
@[simp] theorem setMlen_ovr (v : Word64) (s : State) : (setMlen v s).ovr = s.ovr := rfl
@[simp] theorem setMlen_errcode (v : Word64) (s : State) : (setMlen v s).errcode = s.errcode := rfl
@[simp] theorem setMlen_errop (v : Word64) (s : State) : (setMlen v s).errop = s.errop := rfl
@[simp] theorem setMlen_config (v : Word64) (s : State) : (setMlen v s).config = s.config := rfl
@[simp] theorem setMlen_result (v : Word64) (s : State) : (setMlen v s).result = s.result := rfl
@[simp] theorem setMlen_mlen (v : Word64) (s : State) : (setMlen v s).mlen = v := rfl
@[simp] theorem setMlen_block (v : Word64) (s : State) : (setMlen v s).block = s.block := rfl
@[simp] theorem setMlen_state (v : Word64) (s : State) : (setMlen v s).state = s.state := rfl
@[simp] theorem setMlen_digest (v : Word64) (s : State) : (setMlen v s).digest = s.digest := rfl
@[simp] theorem setMlen_host (v : Word64) (s : State) : (setMlen v s).host = s.host := rfl
@[simp] theorem setMlen_trace (v : Word64) (s : State) : (setMlen v s).trace = s.trace := rfl
@[simp] theorem setMlen_draws (v : Word64) (s : State) : (setMlen v s).draws = s.draws := rfl

/-! `setBlock` -/

@[simp] theorem setBlock_pending (X : Buf) (s : State) : (setBlock X s).pending = s.pending := rfl
@[simp] theorem setBlock_cfg (X : Buf) (s : State) : (setBlock X s).cfg = s.cfg := rfl
@[simp] theorem setBlock_fin (X : Buf) (s : State) : (setBlock X s).fin = s.fin := rfl
@[simp] theorem setBlock_err (X : Buf) (s : State) : (setBlock X s).err = s.err := rfl
@[simp] theorem setBlock_ovr (X : Buf) (s : State) : (setBlock X s).ovr = s.ovr := rfl
@[simp] theorem setBlock_errcode (X : Buf) (s : State) : (setBlock X s).errcode = s.errcode := rfl
@[simp] theorem setBlock_errop (X : Buf) (s : State) : (setBlock X s).errop = s.errop := rfl
@[simp] theorem setBlock_config (X : Buf) (s : State) : (setBlock X s).config = s.config := rfl
@[simp] theorem setBlock_result (X : Buf) (s : State) : (setBlock X s).result = s.result := rfl
@[simp] theorem setBlock_mlen (X : Buf) (s : State) : (setBlock X s).mlen = s.mlen := rfl
@[simp] theorem setBlock_block (X : Buf) (s : State) : (setBlock X s).block = X := rfl
@[simp] theorem setBlock_state (X : Buf) (s : State) : (setBlock X s).state = s.state := rfl
@[simp] theorem setBlock_digest (X : Buf) (s : State) : (setBlock X s).digest = s.digest := rfl
@[simp] theorem setBlock_host (X : Buf) (s : State) : (setBlock X s).host = s.host := rfl
@[simp] theorem setBlock_trace (X : Buf) (s : State) : (setBlock X s).trace = s.trace := rfl
@[simp] theorem setBlock_draws (X : Buf) (s : State) : (setBlock X s).draws = s.draws := rfl

/-! `setChain` -/

@[simp] theorem setChain_pending (X : Buf) (s : State) : (setChain X s).pending = s.pending := rfl
@[simp] theorem setChain_cfg (X : Buf) (s : State) : (setChain X s).cfg = s.cfg := rfl
@[simp] theorem setChain_fin (X : Buf) (s : State) : (setChain X s).fin = s.fin := rfl
@[simp] theorem setChain_err (X : Buf) (s : State) : (setChain X s).err = s.err := rfl
@[simp] theorem setChain_ovr (X : Buf) (s : State) : (setChain X s).ovr = s.ovr := rfl
@[simp] theorem setChain_errcode (X : Buf) (s : State) : (setChain X s).errcode = s.errcode := rfl
@[simp] theorem setChain_errop (X : Buf) (s : State) : (setChain X s).errop = s.errop := rfl
@[simp] theorem setChain_config (X : Buf) (s : State) : (setChain X s).config = s.config := rfl
@[simp] theorem setChain_result (X : Buf) (s : State) : (setChain X s).result = s.result := rfl
@[simp] theorem setChain_mlen (X : Buf) (s : State) : (setChain X s).mlen = s.mlen := rfl
@[simp] theorem setChain_block (X : Buf) (s : State) : (setChain X s).block = s.block := rfl
@[simp] theorem setChain_state (X : Buf) (s : State) : (setChain X s).state = X := rfl
@[simp] theorem setChain_digest (X : Buf) (s : State) : (setChain X s).digest = s.digest := rfl
@[simp] theorem setChain_host (X : Buf) (s : State) : (setChain X s).host = s.host := rfl
@[simp] theorem setChain_trace (X : Buf) (s : State) : (setChain X s).trace = s.trace := rfl
@[simp] theorem setChain_draws (X : Buf) (s : State) : (setChain X s).draws = s.draws := rfl

/-! `setDigest` -/

@[simp] theorem setDigest_pending (D : Vector Byte 64) (s : State) : (setDigest D s).pending = s.pending := rfl
@[simp] theorem setDigest_cfg (D : Vector Byte 64) (s : State) : (setDigest D s).cfg = s.cfg := rfl
@[simp] theorem setDigest_fin (D : Vector Byte 64) (s : State) : (setDigest D s).fin = s.fin := rfl
@[simp] theorem setDigest_err (D : Vector Byte 64) (s : State) : (setDigest D s).err = s.err := rfl
@[simp] theorem setDigest_ovr (D : Vector Byte 64) (s : State) : (setDigest D s).ovr = s.ovr := rfl
@[simp] theorem setDigest_errcode (D : Vector Byte 64) (s : State) : (setDigest D s).errcode = s.errcode := rfl
@[simp] theorem setDigest_errop (D : Vector Byte 64) (s : State) : (setDigest D s).errop = s.errop := rfl
@[simp] theorem setDigest_config (D : Vector Byte 64) (s : State) : (setDigest D s).config = s.config := rfl
@[simp] theorem setDigest_result (D : Vector Byte 64) (s : State) : (setDigest D s).result = s.result := rfl
@[simp] theorem setDigest_mlen (D : Vector Byte 64) (s : State) : (setDigest D s).mlen = s.mlen := rfl
@[simp] theorem setDigest_block (D : Vector Byte 64) (s : State) : (setDigest D s).block = s.block := rfl
@[simp] theorem setDigest_state (D : Vector Byte 64) (s : State) : (setDigest D s).state = s.state := rfl
@[simp] theorem setDigest_digest (D : Vector Byte 64) (s : State) : (setDigest D s).digest = D := rfl
@[simp] theorem setDigest_host (D : Vector Byte 64) (s : State) : (setDigest D s).host = s.host := rfl
@[simp] theorem setDigest_trace (D : Vector Byte 64) (s : State) : (setDigest D s).trace = s.trace := rfl
@[simp] theorem setDigest_draws (D : Vector Byte 64) (s : State) : (setDigest D s).draws = s.draws := rfl

/-! `loadContext` -/

@[simp] theorem loadContext_pending (r : ContextReg) (s : State) : (loadContext r s).pending = s.pending := rfl
@[simp] theorem loadContext_cfg (r : ContextReg) (s : State) : (loadContext r s).cfg = true := rfl
@[simp] theorem loadContext_fin (r : ContextReg) (s : State) : (loadContext r s).fin = false := rfl
@[simp] theorem loadContext_err (r : ContextReg) (s : State) : (loadContext r s).err = s.err := rfl
@[simp] theorem loadContext_ovr (r : ContextReg) (s : State) : (loadContext r s).ovr = s.ovr := rfl
@[simp] theorem loadContext_errcode (r : ContextReg) (s : State) : (loadContext r s).errcode = s.errcode := rfl
@[simp] theorem loadContext_errop (r : ContextReg) (s : State) : (loadContext r s).errop = s.errop := rfl
@[simp] theorem loadContext_config (r : ContextReg) (s : State) : (loadContext r s).config = r := rfl
@[simp] theorem loadContext_result (r : ContextReg) (s : State) : (loadContext r s).result = s.result := rfl
@[simp] theorem loadContext_mlen (r : ContextReg) (s : State) : (loadContext r s).mlen = s.mlen := rfl
@[simp] theorem loadContext_block (r : ContextReg) (s : State) : (loadContext r s).block = s.block := rfl
@[simp] theorem loadContext_state (r : ContextReg) (s : State) : (loadContext r s).state = s.state := rfl
@[simp] theorem loadContext_digest (r : ContextReg) (s : State) : (loadContext r s).digest = s.digest := rfl
@[simp] theorem loadContext_host (r : ContextReg) (s : State) : (loadContext r s).host = s.host := rfl
@[simp] theorem loadContext_trace (r : ContextReg) (s : State) : (loadContext r s).trace = s.trace := rfl
@[simp] theorem loadContext_draws (r : ContextReg) (s : State) : (loadContext r s).draws = s.draws := rfl

/-! `setFin` -/

@[simp] theorem setFin_pending (s : State) : (setFin s).pending = s.pending := rfl
@[simp] theorem setFin_cfg (s : State) : (setFin s).cfg = s.cfg := rfl
@[simp] theorem setFin_fin (s : State) : (setFin s).fin = true := rfl
@[simp] theorem setFin_err (s : State) : (setFin s).err = s.err := rfl
@[simp] theorem setFin_ovr (s : State) : (setFin s).ovr = s.ovr := rfl
@[simp] theorem setFin_errcode (s : State) : (setFin s).errcode = s.errcode := rfl
@[simp] theorem setFin_errop (s : State) : (setFin s).errop = s.errop := rfl
@[simp] theorem setFin_config (s : State) : (setFin s).config = s.config := rfl
@[simp] theorem setFin_result (s : State) : (setFin s).result = s.result := rfl
@[simp] theorem setFin_mlen (s : State) : (setFin s).mlen = s.mlen := rfl
@[simp] theorem setFin_block (s : State) : (setFin s).block = s.block := rfl
@[simp] theorem setFin_state (s : State) : (setFin s).state = s.state := rfl
@[simp] theorem setFin_digest (s : State) : (setFin s).digest = s.digest := rfl
@[simp] theorem setFin_host (s : State) : (setFin s).host = s.host := rfl
@[simp] theorem setFin_trace (s : State) : (setFin s).trace = s.trace := rfl
@[simp] theorem setFin_draws (s : State) : (setFin s).draws = s.draws := rfl

/-! `setOvr` -/

@[simp] theorem setOvr_pending (s : State) : (setOvr s).pending = s.pending := rfl
@[simp] theorem setOvr_cfg (s : State) : (setOvr s).cfg = s.cfg := rfl
@[simp] theorem setOvr_fin (s : State) : (setOvr s).fin = s.fin := rfl
@[simp] theorem setOvr_err (s : State) : (setOvr s).err = s.err := rfl
@[simp] theorem setOvr_ovr (s : State) : (setOvr s).ovr = true := rfl
@[simp] theorem setOvr_errcode (s : State) : (setOvr s).errcode = s.errcode := rfl
@[simp] theorem setOvr_errop (s : State) : (setOvr s).errop = s.errop := rfl
@[simp] theorem setOvr_config (s : State) : (setOvr s).config = s.config := rfl
@[simp] theorem setOvr_result (s : State) : (setOvr s).result = s.result := rfl
@[simp] theorem setOvr_mlen (s : State) : (setOvr s).mlen = s.mlen := rfl
@[simp] theorem setOvr_block (s : State) : (setOvr s).block = s.block := rfl
@[simp] theorem setOvr_state (s : State) : (setOvr s).state = s.state := rfl
@[simp] theorem setOvr_digest (s : State) : (setOvr s).digest = s.digest := rfl
@[simp] theorem setOvr_host (s : State) : (setOvr s).host = s.host := rfl
@[simp] theorem setOvr_trace (s : State) : (setOvr s).trace = s.trace := rfl
@[simp] theorem setOvr_draws (s : State) : (setOvr s).draws = s.draws := rfl

/-! `setHost` -/

@[simp] theorem setHost_pending (ops : List HostOp) (s : State) : (setHost ops s).pending = s.pending := rfl
@[simp] theorem setHost_cfg (ops : List HostOp) (s : State) : (setHost ops s).cfg = s.cfg := rfl
@[simp] theorem setHost_fin (ops : List HostOp) (s : State) : (setHost ops s).fin = s.fin := rfl
@[simp] theorem setHost_err (ops : List HostOp) (s : State) : (setHost ops s).err = s.err := rfl
@[simp] theorem setHost_ovr (ops : List HostOp) (s : State) : (setHost ops s).ovr = s.ovr := rfl
@[simp] theorem setHost_errcode (ops : List HostOp) (s : State) : (setHost ops s).errcode = s.errcode := rfl
@[simp] theorem setHost_errop (ops : List HostOp) (s : State) : (setHost ops s).errop = s.errop := rfl
@[simp] theorem setHost_config (ops : List HostOp) (s : State) : (setHost ops s).config = s.config := rfl
@[simp] theorem setHost_result (ops : List HostOp) (s : State) : (setHost ops s).result = s.result := rfl
@[simp] theorem setHost_mlen (ops : List HostOp) (s : State) : (setHost ops s).mlen = s.mlen := rfl
@[simp] theorem setHost_block (ops : List HostOp) (s : State) : (setHost ops s).block = s.block := rfl
@[simp] theorem setHost_state (ops : List HostOp) (s : State) : (setHost ops s).state = s.state := rfl
@[simp] theorem setHost_digest (ops : List HostOp) (s : State) : (setHost ops s).digest = s.digest := rfl
@[simp] theorem setHost_host (ops : List HostOp) (s : State) : (setHost ops s).host = ops := rfl
@[simp] theorem setHost_trace (ops : List HostOp) (s : State) : (setHost ops s).trace = s.trace := rfl
@[simp] theorem setHost_draws (ops : List HostOp) (s : State) : (setHost ops s).draws = s.draws := rfl

/-! `record` -/

@[simp] theorem record_pending (r : Response) (s : State) : (record r s).pending = s.pending := rfl
@[simp] theorem record_cfg (r : Response) (s : State) : (record r s).cfg = s.cfg := rfl
@[simp] theorem record_fin (r : Response) (s : State) : (record r s).fin = s.fin := rfl
@[simp] theorem record_err (r : Response) (s : State) : (record r s).err = s.err := rfl
@[simp] theorem record_ovr (r : Response) (s : State) : (record r s).ovr = s.ovr := rfl
@[simp] theorem record_errcode (r : Response) (s : State) : (record r s).errcode = s.errcode := rfl
@[simp] theorem record_errop (r : Response) (s : State) : (record r s).errop = s.errop := rfl
@[simp] theorem record_config (r : Response) (s : State) : (record r s).config = s.config := rfl
@[simp] theorem record_result (r : Response) (s : State) : (record r s).result = s.result := rfl
@[simp] theorem record_mlen (r : Response) (s : State) : (record r s).mlen = s.mlen := rfl
@[simp] theorem record_block (r : Response) (s : State) : (record r s).block = s.block := rfl
@[simp] theorem record_state (r : Response) (s : State) : (record r s).state = s.state := rfl
@[simp] theorem record_digest (r : Response) (s : State) : (record r s).digest = s.digest := rfl
@[simp] theorem record_host (r : Response) (s : State) : (record r s).host = s.host := rfl
@[simp] theorem record_trace (r : Response) (s : State) : (record r s).trace = r :: s.trace := rfl
@[simp] theorem record_draws (r : Response) (s : State) : (record r s).draws = s.draws := rfl

/-! `countDraw` -/

@[simp] theorem countDraw_pending (s : State) : (countDraw s).pending = s.pending := rfl
@[simp] theorem countDraw_cfg (s : State) : (countDraw s).cfg = s.cfg := rfl
@[simp] theorem countDraw_fin (s : State) : (countDraw s).fin = s.fin := rfl
@[simp] theorem countDraw_err (s : State) : (countDraw s).err = s.err := rfl
@[simp] theorem countDraw_ovr (s : State) : (countDraw s).ovr = s.ovr := rfl
@[simp] theorem countDraw_errcode (s : State) : (countDraw s).errcode = s.errcode := rfl
@[simp] theorem countDraw_errop (s : State) : (countDraw s).errop = s.errop := rfl
@[simp] theorem countDraw_config (s : State) : (countDraw s).config = s.config := rfl
@[simp] theorem countDraw_result (s : State) : (countDraw s).result = s.result := rfl
@[simp] theorem countDraw_mlen (s : State) : (countDraw s).mlen = s.mlen := rfl
@[simp] theorem countDraw_block (s : State) : (countDraw s).block = s.block := rfl
@[simp] theorem countDraw_state (s : State) : (countDraw s).state = s.state := rfl
@[simp] theorem countDraw_digest (s : State) : (countDraw s).digest = s.digest := rfl
@[simp] theorem countDraw_host (s : State) : (countDraw s).host = s.host := rfl
@[simp] theorem countDraw_trace (s : State) : (countDraw s).trace = s.trace := rfl
@[simp] theorem countDraw_draws (s : State) : (countDraw s).draws = s.draws + 1 := rfl

/-! `resetCore` -/

@[simp] theorem resetCore_pending (s : State) : (resetCore s).pending = State.reset.pending := rfl
@[simp] theorem resetCore_cfg (s : State) : (resetCore s).cfg = State.reset.cfg := rfl
@[simp] theorem resetCore_fin (s : State) : (resetCore s).fin = State.reset.fin := rfl
@[simp] theorem resetCore_err (s : State) : (resetCore s).err = State.reset.err := rfl
@[simp] theorem resetCore_ovr (s : State) : (resetCore s).ovr = State.reset.ovr := rfl
@[simp] theorem resetCore_errcode (s : State) : (resetCore s).errcode = State.reset.errcode := rfl
@[simp] theorem resetCore_errop (s : State) : (resetCore s).errop = State.reset.errop := rfl
@[simp] theorem resetCore_config (s : State) : (resetCore s).config = State.reset.config := rfl
@[simp] theorem resetCore_result (s : State) : (resetCore s).result = State.reset.result := rfl
@[simp] theorem resetCore_mlen (s : State) : (resetCore s).mlen = State.reset.mlen := rfl
@[simp] theorem resetCore_block (s : State) : (resetCore s).block = State.reset.block := rfl
@[simp] theorem resetCore_state (s : State) : (resetCore s).state = State.reset.state := rfl
@[simp] theorem resetCore_digest (s : State) : (resetCore s).digest = State.reset.digest := rfl
@[simp] theorem resetCore_host (s : State) : (resetCore s).host = s.host := rfl
@[simp] theorem resetCore_trace (s : State) : (resetCore s).trace = s.trace := rfl
@[simp] theorem resetCore_draws (s : State) : (resetCore s).draws = s.draws := rfl

/-! What `reject` is made of: the error action, then BUSY cleared (60_exceptions.md R601). -/

theorem reject_eq (e : ErrorCode) (op : Byte) (s : State) : reject e op s = complete (markError e op s) := rfl

/-- BUSY is 1 exactly while a command is pending (10_state.md R106). -/
@[simp] theorem busy_complete (s : State) : busy (complete s) = false := rfl

@[simp] theorem complete_complete (s : State) : complete (complete s) = complete s := rfl

@[simp] theorem colsOf_setChain (X : Buf) (s : State) : colsOf (setChain X s) = colsOf s := rfl
@[simp] theorem colsOf_setBlock (X : Buf) (s : State) : colsOf (setBlock X s) = colsOf s := rfl
@[simp] theorem colsOf_setMlen (v : Word64) (s : State) : colsOf (setMlen v s) = colsOf s := rfl
@[simp] theorem colsOf_complete (s : State) : colsOf (complete s) = colsOf s := rfl
@[simp] theorem colsOf_setPending (p : Pending) (s : State) : colsOf (setPending p s) = colsOf s := rfl
@[simp] theorem roundsOf_setChain (X : Buf) (s : State) : roundsOf (setChain X s) = roundsOf s := rfl
@[simp] theorem roundsOf_setBlock (X : Buf) (s : State) : roundsOf (setBlock X s) = roundsOf s := rfl
@[simp] theorem roundsOf_setMlen (v : Word64) (s : State) : roundsOf (setMlen v s) = roundsOf s := rfl
@[simp] theorem roundsOf_complete (s : State) : roundsOf (complete s) = roundsOf s := rfl
@[simp] theorem roundsOf_setPending (p : Pending) (s : State) : roundsOf (setPending p s) = roundsOf s := rfl
@[simp] theorem digestBytes_setChain (X : Buf) (s : State) : digestBytes (setChain X s) = digestBytes s := rfl
@[simp] theorem digestBytes_complete (s : State) : digestBytes (complete s) = digestBytes s := rfl

end Sys2Proof.Machine
end

