-- ==== Sys2Proof/Laws/Command.lean ====
section
/-! SUPPORT. What the shared frame of a command can do (60_exceptions.md R601-R603): proofs cite these and do not
unfold `command`. -/

namespace Sys2Proof.Machine

variable {i : Instr} {checks : List (Bool × ErrorCode)} {effect s t : State}

/-- Everything a command can do: it is ignored, rejected, or takes its effect, and it always answers a next state. -/
theorem command_cases (i : Instr) (checks : List (Bool × ErrorCode)) (effect s : State) :
    (s.err = true ∧ command i checks effect s = .next (complete s)) ∨
    (s.err = false ∧ ∃ e, firstError checks = some e ∧
      command i checks effect s = .next (reject e (opcodeOf i) s)) ∨
    (s.err = false ∧ firstError checks = none ∧ command i checks effect s = .next (complete effect)) := by
  unfold command
  cases h : s.err
  · cases h' : firstError checks <;> simp
  · simp

/-- The same, of a known next state. -/
theorem command_inv (h : command i checks effect s = .next t) :
    (s.err = true ∧ t = complete s) ∨
    (s.err = false ∧ ∃ e, firstError checks = some e ∧ t = reject e (opcodeOf i) s) ∨
    (s.err = false ∧ firstError checks = none ∧ t = complete effect) := by
  rcases command_cases i checks effect s with ⟨h1, h2⟩ | ⟨h1, e, h2, h3⟩ | ⟨h1, h2, h3⟩
  · rw [h2] at h; cases h; exact .inl ⟨h1, rfl⟩
  · rw [h3] at h; cases h; exact .inr (.inl ⟨h1, e, h2, rfl⟩)
  · rw [h3] at h; cases h; exact .inr (.inr ⟨h1, h2, rfl⟩)

/-- While ERR = 1 a command completes with no effect (60_exceptions.md R603). -/
theorem command_ignored (h : s.err = true) : command i checks effect s = .next (complete s) := by
  simp [command, h]

/-- The first failed check rejects the command (60_exceptions.md R602). -/
theorem command_rejected {e : ErrorCode} (h : s.err = false) (hc : firstError checks = some e) :
    command i checks effect s = .next (reject e (opcodeOf i) s) := by
  simp [command, h, hc]

/-- With ERR = 0 and every check passed the command takes its effect (60_exceptions.md R602). -/
theorem command_effect (h : s.err = false) (hc : firstError checks = none) :
    command i checks effect s = .next (complete effect) := by
  simp [command, h, hc]

@[simp] theorem firstError_nil : firstError [] = none := rfl

@[simp] theorem firstError_cons (b : Bool) (e : ErrorCode) (l : List (Bool × ErrorCode)) :
    firstError ((b, e) :: l) = if b then some e else firstError l := rfl

/-- A layer, permutation or combiner command in a context writes STATE and nothing else. -/
theorem stateCommand_effect (i : Instr) (X : Buf) (h : s.err = false) (hc : s.cfg = true) :
    stateCommand i X s = .next (complete (setChain X s)) :=
  command_effect h (by simp [needsContext, hc])

/-- Without a context it is rejected with NOT_CONFIGURED (10_state.md R107). -/
theorem stateCommand_rejected (i : Instr) (X : Buf) (h : s.err = false) (hc : s.cfg = false) :
    stateCommand i X s = .next (reject .notConfigured (opcodeOf i) s) :=
  command_rejected h (by simp [needsContext, hc])

end Sys2Proof.Machine
end

