-- ==== Sys2Proof/Laws/Words.lean ====
section
/-! SUPPORT. The fields of a packed command word (30_encoding.md R300). -/

namespace Sys2Proof

@[simp] theorem opField_packWord (op a b c : Byte) : opField (packWord op a b c) = op := by
  ext i hi
  simp only [opField, packWord, BitVec.getElem_extractLsb', BitVec.getLsbD_append]
  rw [if_neg (by omega), if_neg (by omega), if_neg (by omega)]
  rw [← BitVec.getLsbD_eq_getElem]
  congr 1; omega

@[simp] theorem aField_packWord (op a b c : Byte) : aField (packWord op a b c) = a := by
  ext i hi
  simp only [aField, packWord, BitVec.getElem_extractLsb', BitVec.getLsbD_append]
  rw [if_neg (by omega), if_neg (by omega), if_pos (by omega)]
  rw [← BitVec.getLsbD_eq_getElem]
  congr 1; omega

@[simp] theorem bField_packWord (op a b c : Byte) : bField (packWord op a b c) = b := by
  ext i hi
  simp only [bField, packWord, BitVec.getElem_extractLsb', BitVec.getLsbD_append]
  rw [if_neg (by omega), if_pos (by omega)]
  rw [← BitVec.getLsbD_eq_getElem]
  congr 1; omega

@[simp] theorem cField_packWord (op a b c : Byte) : cField (packWord op a b c) = c := by
  ext i hi
  simp only [cField, packWord, BitVec.getElem_extractLsb', BitVec.getLsbD_append]
  rw [if_pos (by omega)]
  rw [← BitVec.getLsbD_eq_getElem]
  congr 1; omega

/-- The operand D16 spans the fields B and C (30_encoding.md R300). -/
@[simp] theorem d16Field_packWord (op a : Byte) (d : BitVec 16) :
    d16Field (packWord op a (d.extractLsb' 8 8) (d.extractLsb' 0 8)) = d := by
  apply BitVec.eq_of_getLsbD_eq
  intro i hi
  simp only [d16Field, packWord, BitVec.getLsbD_append, BitVec.getLsbD_extractLsb']
  grind

end Sys2Proof
end

