-- ==== Sys2Proof/Laws/PerInstr.lean ====
section
/-! SUPPORT. The encoding of each command, one lemma per constructor of Instr (30_encoding.md R301): its word carries
its opcode, and under its format's mask it is the opcode alone. -/

namespace Sys2Proof

/-- Masks work field by field. -/
theorem packWord_and (op a b c op' a' b' c' : Byte) :
    packWord op a b c &&& packWord op' a' b' c' = packWord (op &&& op') (a &&& a') (b &&& b') (c &&& c') := by
  apply BitVec.eq_of_getLsbD_eq
  intro i hi
  simp only [packWord, BitVec.getLsbD_and, BitVec.getLsbD_append]
  grind

/-- The masks of R301 by field: 0xFF where the field is fixed, 0 where it is an operand. -/
theorem formatMask_fields (f : Format) :
    formatMask f = match f with
      | .N => packWord 0xFF 0xFF 0xFF 0xFF
      | .D => packWord 0xFF 0xFF 0 0
      | .L => packWord 0xFF 0xFF 0xFF 0
      | .BB => packWord 0xFF 0 0 0xFF
      | .TB => packWord 0xFF 0 0 0xFF
      | .R => packWord 0xFF 0 0xFF 0xFF := by
  cases f <;> decide

@[simp] theorem and_zero_byte (x : Byte) : x &&& 0x00#8 = 0 := by simp
@[simp] theorem and_ones_byte (x : Byte) : x &&& 0xFF#8 = x := BitVec.and_allOnes

/-- The word whose opcode is op, read from either side (30_encoding.md R301: match_X = OP_X << 24). -/
theorem packWord_opcode (op : Byte) : packWord op 0 0 0 = op.setWidth 32 <<< 24 := by
  apply BitVec.eq_of_getLsbD_eq
  intro i hi
  simp only [packWord, BitVec.getLsbD_append, BitVec.getLsbD_shiftLeft, BitVec.getLsbD_setWidth]
  grind

namespace Laws.Encoding

/-- The encoding of i has i's opcode, and is i's match word under the mask of i's format. -/
def Statement (i : Instr) : Prop :=
  opField (encode i) = opcodeOf i ∧ encode i &&& formatMask (formatOf i) = packWord (opcodeOf i) 0 0 0

theorem nop : Statement .nop := by simp [Statement, encode, formatOf, formatMask_fields, packWord_and]
theorem sreset : Statement .sreset := by simp [Statement, encode, formatOf, formatMask_fields, packWord_and]
theorem clrerr : Statement .clrerr := by simp [Statement, encode, formatOf, formatMask_fields, packWord_and]
theorem init (d : BitVec 16) : Statement (.init d) := by
  simp [Statement, encode, formatOf, formatMask_fields, packWord_and]
theorem absorb : Statement .absorb := by simp [Statement, encode, formatOf, formatMask_fields, packWord_and]
theorem final (n : Byte) : Statement (.final n) := by
  simp [Statement, encode, formatOf, formatMask_fields, packWord_and]
theorem gfmul (x y : Byte) : Statement (.gfmul x y) := by
  simp [Statement, encode, formatOf, formatMask_fields, packWord_and]
theorem gftab (x y : Byte) : Statement (.gftab x y) := by
  simp [Statement, encode, formatOf, formatMask_fields, packWord_and]
theorem sbox (t x : Byte) : Statement (.sbox t x) := by
  simp [Statement, encode, formatOf, formatMask_fields, packWord_and]
theorem subb : Statement .subb := by simp [Statement, encode, formatOf, formatMask_fields, packWord_and]
theorem shiftr : Statement .shiftr := by simp [Statement, encode, formatOf, formatMask_fields, packWord_and]
theorem mixc : Statement .mixc := by simp [Statement, encode, formatOf, formatMask_fields, packWord_and]
theorem addrcp (r : Byte) : Statement (.addrcp r) := by
  simp [Statement, encode, formatOf, formatMask_fields, packWord_and]
theorem addrcq (r : Byte) : Statement (.addrcq r) := by
  simp [Statement, encode, formatOf, formatMask_fields, packWord_and]
theorem roundp (r : Byte) : Statement (.roundp r) := by
  simp [Statement, encode, formatOf, formatMask_fields, packWord_and]
theorem roundq (r : Byte) : Statement (.roundq r) := by
  simp [Statement, encode, formatOf, formatMask_fields, packWord_and]
theorem permp : Statement .permp := by simp [Statement, encode, formatOf, formatMask_fields, packWord_and]
theorem permq : Statement .permq := by simp [Statement, encode, formatOf, formatMask_fields, packWord_and]
theorem xorb : Statement .xorb := by simp [Statement, encode, formatOf, formatMask_fields, packWord_and]
theorem tcomp : Statement .tcomp := by simp [Statement, encode, formatOf, formatMask_fields, packWord_and]
theorem outt : Statement .outt := by simp [Statement, encode, formatOf, formatMask_fields, packWord_and]
theorem trunc : Statement .trunc := by simp [Statement, encode, formatOf, formatMask_fields, packWord_and]

end Laws.Encoding

end Sys2Proof
end

