-- ==== Sys2Proof/Laws/Decode.lean ====
section
/-! SUPPORT. What decoding a word can give, and the fields of any word (30_encoding.md R300, R304-R306). -/

namespace Sys2Proof

open Sys2Proof.Safety

/-- A word is its four fields (30_encoding.md R300). -/
theorem packWord_fields (w : Word) : packWord (opField w) (aField w) (bField w) (cField w) = w := by
  apply BitVec.eq_of_getLsbD_eq
  intro i hi
  simp only [packWord, opField, aField, bField, cField, BitVec.getLsbD_append, BitVec.getLsbD_extractLsb']
  grind

/-- Words are equal when their fields are. -/
theorem packWord_inj {a b c d a' b' c' d' : Byte} :
    packWord a b c d = packWord a' b' c' d' ↔ a = a' ∧ b = b' ∧ c = c' ∧ d = d' := by
  constructor
  · intro h
    have h1 := congrArg opField h
    have h2 := congrArg aField h
    have h3 := congrArg bField h
    have h4 := congrArg cField h
    simp at h1 h2 h3 h4
    exact ⟨h1, h2, h3, h4⟩
  · rintro ⟨rfl, rfl, rfl, rfl⟩; rfl

/-- The high byte of D16 is the field B, the low byte the field C (30_encoding.md R300). -/
theorem d16Field_high (w : Word) : (d16Field w).extractLsb' 8 8 = bField w := by
  apply BitVec.eq_of_getLsbD_eq
  intro i hi
  simp [d16Field, bField]

theorem d16Field_low (w : Word) : (d16Field w).extractLsb' 0 8 = cField w := by
  apply BitVec.eq_of_getLsbD_eq
  intro i hi
  simp [d16Field, cField]

/-- The command the opcode selects has that opcode (30_encoding.md R303). -/
theorem opcodeOf_commandAt {w : Word} {i : Instr} (h : commandAt w = some i) : opcodeOf i = opField w := by
  unfold commandAt at h
  split at h <;> cases h <;> apply BitVec.eq_of_toNat_eq <;> simp [*, opcodeOf]

/-- No command is selected exactly by the opcodes that R303 does not list (30_encoding.md R305). -/
theorem commandAt_none_iff (w : Word) : commandAt w = none ↔ opField w ∉ opcodes := by
  have h : ∀ b : Byte, b ∉ opcodes ↔ b.toNat ∉ opcodes.map BitVec.toNat := by decide +kernel
  rw [h]
  unfold commandAt
  split <;> simp [opcodes, *]
  grind

/-- A word matches under its format's mask exactly when its must-be-zero bits are zero (30_encoding.md R301, R304). -/
theorem mask_iff_zeroBits {w : Word} {i : Instr} (h : commandAt w = some i) :
    w &&& formatMask (formatOf i) = packWord (opField w) 0 0 0 ↔ w &&& zeroBits (opField w) = 0 := by
  have z : zeroBits (opField w) = match formatOf i with
      | .N => packWord 0 0xFF 0xFF 0xFF
      | .D => packWord 0 0xFF 0 0
      | .L => packWord 0 0xFF 0xFF 0
      | .BB => packWord 0 0 0 0xFF
      | .TB => packWord 0 0 0 0xFF
      | .R => packWord 0 0 0xFF 0xFF := by
    rw [← opcodeOf_commandAt h]; cases i <;> rfl
  have hw := packWord_fields w
  rw [z, formatMask_fields]
  generalize opField w = o at *
  generalize aField w = a at *
  generalize bField w = b at *
  generalize cField w = c at *
  subst hw
  rw [show (0 : Word) = packWord 0 0 0 0 from rfl]
  cases formatOf i <;> simp [packWord_and, packWord_inj]

/-- Everything decoding can give: an illegal opcode, a reserved field, or the command (30_encoding.md R306). -/
theorem decode_cases (w : Word) :
    (opField w ∉ opcodes ∧ decode w = .error (.illegalOpcode (opField w))) ∨
    (opField w ∈ opcodes ∧ w &&& zeroBits (opField w) ≠ 0 ∧ decode w = .error (.reservedField (opField w))) ∨
    (opField w ∈ opcodes ∧ w &&& zeroBits (opField w) = 0 ∧
      ∃ i, commandAt w = some i ∧ opcodeOf i = opField w ∧ decode w = .ok i) := by
  cases h : commandAt w with
  | none => exact .inl ⟨(commandAt_none_iff w).1 h, by simp [decode, h]⟩
  | some i =>
    have hin : opField w ∈ opcodes := by
      by_contra hn
      rw [(commandAt_none_iff w).2 hn] at h
      cases h
    by_cases hz : w &&& zeroBits (opField w) = 0
    · refine .inr (.inr ⟨hin, hz, i, rfl, opcodeOf_commandAt h, ?_⟩)
      simp only [decode, h]
      rw [if_pos ((mask_iff_zeroBits h).2 hz)]
    · refine .inr (.inl ⟨hin, hz, ?_⟩)
      simp only [decode, h]
      rw [if_neg fun hm => hz ((mask_iff_zeroBits h).1 hm)]

end Sys2Proof
end

