-- ==== Sys2Proof/Laws/Exec.lean ====
section
/-! SUPPORT. Every command but SRESET and CLRERR is the shared frame with its own checks and its own effect: what
`exec` can do, said once. -/

namespace Sys2Proof.Machine

/-- The checks of a command, in the order of 60_exceptions.md R602. -/
def checksOf : Instr → State → List (Bool × ErrorCode)
  | .nop, _ | .sreset, _ | .clrerr, _ | .gfmul _ _, _ | .gftab _ _, _ => []
  | .init d, _ => [(!validDigestBits d, .badDigestBits)]
  | .sbox t _, _ => [(!validSboxIndex t, .badSboxIndex)]
  | .absorb, s => [needsContext s, notFinalized s, lengthFits (8 * blockBytes s) s]
  | .final n, s => [needsContext s, notFinalized s, tailFits n s, lengthFits (8 * n.toNat) s]
  | .subb, s | .shiftr, s | .mixc, s | .addrcp _, s | .addrcq _, s | .roundp _, s | .roundq _, s
  | .permp, s | .permq, s | .xorb, s | .tcomp, s | .outt, s | .trunc, s => [needsContext s]

/-- The effect of a command that is not rejected, before BUSY is cleared. -/
def effectOf : Instr → State → State
  | .nop, s => s
  | .sreset, s => resetCore s
  | .clrerr, s => clearErrors s
  | .init d, s => initEffect d s
  | .absorb, s => absorbEffect s
  | .final n, s => finalEffect n s
  | .gfmul x y, s => setResult (gfMul x y) s
  | .gftab x y, s => setResult (gft x y) s
  | .sbox t x, s => setResult (sboxAt t.toNat x) s
  | .subb, s => setChain (subBytes (colsOf s) s.state) s
  | .shiftr, s => setChain (shiftRows (colsOf s) s.state) s
  | .mixc, s => setChain (mixColumns (colsOf s) s.state) s
  | .addrcp r, s => setChain (addRcP (colsOf s) r s.state) s
  | .addrcq r, s => setChain (addRcQ (colsOf s) r s.state) s
  | .roundp r, s => setChain (roundP (colsOf s) r s.state) s
  | .roundq r, s => setChain (roundQ (colsOf s) r s.state) s
  | .permp, s => setChain (permP (roundsOf s) (colsOf s) s.state) s
  | .permq, s => setChain (permQ (roundsOf s) (colsOf s) s.state) s
  | .xorb, s => setChain (xorCells (colsOf s) s.state s.block) s
  | .tcomp, s => setChain (compress (roundsOf s) (colsOf s) s.state s.block) s
  | .outt, s => setChain (outputTransform (roundsOf s) (colsOf s) s.state) s
  | .trunc, s => setDigest (truncDigest (colsOf s) (digestBytes s) s.state) s

/-- Every command but SRESET and CLRERR runs in the shared frame (60_exceptions.md R602). -/
theorem exec_eq_command (i : Instr) (s : State) (h1 : i ≠ .sreset) (h2 : i ≠ .clrerr) :
    exec i s = command i (checksOf i s) (effectOf i s) s := by
  cases i <;> first | rfl | exact absurd rfl h1 | exact absurd rfl h2

/-- SRESET and CLRERR take their effect in every state (60_exceptions.md R603). -/
theorem exec_sreset (s : State) : exec .sreset s = .next (complete (resetCore s)) := rfl

theorem exec_clrerr (s : State) : exec .clrerr s = .next (complete (clearErrors s)) := rfl

/-- While ERR = 1 every other command is ignored (60_exceptions.md R603). -/
theorem exec_ignored {i : Instr} {s : State} (h1 : i ≠ .sreset) (h2 : i ≠ .clrerr) (h : s.err = true) :
    exec i s = .next (complete s) := by
  rw [exec_eq_command i s h1 h2, command_ignored h]

/-- With ERR = 0 and its checks passed, a command takes its effect. -/
theorem exec_effect {i : Instr} {s : State} (h : s.err = false) (hc : firstError (checksOf i s) = none) :
    exec i s = .next (complete (effectOf i s)) := by
  by_cases h1 : i = .sreset
  · subst h1; rfl
  · by_cases h2 : i = .clrerr
    · subst h2; rfl
    · rw [exec_eq_command i s h1 h2, command_effect h hc]

/-- With ERR = 0 and a check failed, a command is rejected with the first such check's code. -/
theorem exec_rejected {i : Instr} {s : State} {e : ErrorCode} (h : s.err = false)
    (hc : firstError (checksOf i s) = some e) : exec i s = .next (reject e (opcodeOf i) s) := by
  have h1 : i ≠ .sreset := by rintro rfl; simp [checksOf] at hc
  have h2 : i ≠ .clrerr := by rintro rfl; simp [checksOf] at hc
  rw [exec_eq_command i s h1 h2, command_rejected h hc]

/-- No effect but SRESET's and CLRERR's touches the error fields or OVR (10_state.md R109, R110). -/
theorem effectOf_errorFields {i : Instr} (s : State) (h1 : i ≠ .sreset) (h2 : i ≠ .clrerr) :
    (effectOf i s).err = s.err ∧ (effectOf i s).errcode = s.errcode ∧ (effectOf i s).errop = s.errop ∧
      (effectOf i s).ovr = s.ovr := by
  cases i <;> first
    | exact absurd rfl h1
    | exact absurd rfl h2
    | simp [effectOf, initEffect, absorbEffect, finalEffect]

/-- No effect but SRESET's touches BLOCK (10_state.md R114). -/
theorem effectOf_block {i : Instr} (s : State) (h : i ≠ .sreset) : (effectOf i s).block = s.block := by
  cases i <;> first | exact absurd rfl h | simp [effectOf, initEffect, absorbEffect, finalEffect]

/-- Everything a command can do: be ignored, be rejected, or take its effect. -/
theorem exec_cases {i : Instr} {s t : State} (h : exec i s = .next t) :
    (s.err = true ∧ t = complete s) ∨
    (s.err = false ∧ ∃ e, firstError (checksOf i s) = some e ∧ t = reject e (opcodeOf i) s) ∨
    ((s.err = false ∨ i = .sreset ∨ i = .clrerr) ∧ firstError (checksOf i s) = none ∧
      t = complete (effectOf i s)) := by
  by_cases h1 : i = .sreset
  · subst h1; cases h; exact .inr (.inr ⟨by simp, rfl, rfl⟩)
  · by_cases h2 : i = .clrerr
    · subst h2; cases h; exact .inr (.inr ⟨by simp, rfl, rfl⟩)
    · rw [exec_eq_command i s h1 h2] at h
      rcases command_inv h with h | h | ⟨h3, h4, h5⟩
      · exact .inl h
      · exact .inr (.inl h)
      · exact .inr (.inr ⟨.inl h3, h4, h5⟩)

end Sys2Proof.Machine
end

