-- ==== Sys2Proof/Laws/HostPort.lean ====
section
/-! SUPPORT. What an access and a move of the host can do (20_memory.md R202, R205; 70_reset_and_hazards.md R705,
R706). -/

namespace Sys2Proof.Machine

/-- A host with nothing to do leaves the core as it is (60_exceptions.md R612). -/
theorem hostTurn_nil {s : State} (h : s.host = []) : hostTurn s = s := by simp [hostTurn, h]

/-- A host with something to do does the first of it. -/
theorem hostTurn_cons {s : State} {op : HostOp} {rest : List HostOp} (h : s.host = op :: rest) :
    hostTurn s = hostMove op (setHost rest s) := by simp [hostTurn, h]

/-- What no access to the port can change (10_state.md R102). -/
structure PortFrame (s t : State) : Prop where
  cfg : t.cfg = s.cfg
  fin : t.fin = s.fin
  err : t.err = s.err
  errcode : t.errcode = s.errcode
  errop : t.errop = s.errop
  config : t.config = s.config
  result : t.result = s.result
  mlen : t.mlen = s.mlen
  digest : t.digest = s.digest

theorem PortFrame.refl (s : State) : PortFrame s s := ⟨rfl, rfl, rfl, rfl, rfl, rfl, rfl, rfl, rfl⟩

/-- What an access or a WAIT turn that stores nothing leaves besides: BLOCK, STATE, OVR and the pending command. -/
structure ReadFrame (s t : State) : Prop extends PortFrame s t where
  block : t.block = s.block
  state : t.state = s.state
  ovr : t.ovr = s.ovr
  pending : t.pending = s.pending

theorem ReadFrame.refl (s : State) : ReadFrame s s := ⟨PortFrame.refl s, rfl, rfl, rfl, rfl⟩

/-- A host read changes the record, and the count of free values at most (20_memory.md R205). -/
theorem hostRead_cases (a : Addr) (s : State) :
    (regAt a = none ∧ hostRead a s = record (.ofRead .slverr 0) s) ∨
    (∃ r, regAt a = some r ∧ busy s = true ∧ r ≠ .status ∧
      hostRead a s = record (.ofRead .okay (Config.busyRead s.draws)) (countDraw s)) ∨
    (∃ r, regAt a = some r ∧ (busy s = false ∨ r = .status) ∧
      hostRead a s = record (.ofRead .okay (viewReg s r)) s) := by
  unfold hostRead memRead
  cases hr : regAt a with
  | none => simp
  | some r =>
    cases hb : busy s <;> by_cases hs : r = .status <;> simp [busyView, hs]

/-- A host read stores nothing. -/
theorem hostRead_frame (a : Addr) (s : State) : ReadFrame s (hostRead a s) := by
  rcases hostRead_cases a s with ⟨_, h⟩ | ⟨_, _, _, _, h⟩ | ⟨_, _, _, h⟩ <;> rw [h] <;>
    exact ⟨⟨rfl, rfl, rfl, rfl, rfl, rfl, rfl, rfl, rfl⟩, rfl, rfl, rfl, rfl⟩

/-- What a host write can do: be discarded and set OVR, latch a command, store into BLOCK or STATE, or be refused
(20_memory.md R202). -/
theorem hostWrite_cases (a : Addr) (v : Word) (s : State) :
    (busy s = true ∧ hostWrite a v s = record (.ofWrite .okay) (setOvr s)) ∨
    (busy s = false ∧ regAt a = some .cmd ∧ hostWrite a v s = record (.ofWrite .okay) (latch v s)) ∨
    (busy s = false ∧ ∃ q, regAt a = some (.block q) ∧
      hostWrite a v s = record (.ofWrite .okay) (setBlock (storeWord s.block q v) s)) ∨
    (busy s = false ∧ ∃ q, regAt a = some (.state q) ∧
      hostWrite a v s = record (.ofWrite .okay) (setChain (storeWord s.state q v) s)) ∨
    (busy s = false ∧ (regAt a = none ∨ ∃ r, regAt a = some r ∧ r ≠ .cmd ∧ (∀ q, r ≠ .block q) ∧ ∀ q, r ≠ .state q) ∧
      hostWrite a v s = record (.ofWrite .slverr) s) := by
  unfold hostWrite memWrite
  cases hb : busy s
  · cases hr : regAt a with
    | none => simp
    | some r => cases r <;> simp [writeReg]
  · simp

/-- Everything a move of the host can do. -/
theorem hostMove_cases (op : HostOp) (s : State) :
    (op = .hardReset ∧ hostMove op s = resetCore s) ∨
    (op ≠ .hardReset ∧ ReadFrame s (hostMove op s)) ∨
    (∃ a v, op = .write a v ∧ busy s = true ∧ hostMove op s = record (.ofWrite .okay) (setOvr s)) ∨
    (∃ a v, op = .write a v ∧ busy s = false ∧ regAt a = some .cmd ∧
      hostMove op s = record (.ofWrite .okay) (latch v s)) ∨
    (∃ a v q, op = .write a v ∧ busy s = false ∧ regAt a = some (.block q) ∧
      hostMove op s = record (.ofWrite .okay) (setBlock (storeWord s.block q v) s)) ∨
    (∃ a v q, op = .write a v ∧ busy s = false ∧ regAt a = some (.state q) ∧
      hostMove op s = record (.ofWrite .okay) (setChain (storeWord s.state q v) s)) := by
  cases op with
  | hardReset => exact .inl ⟨rfl, rfl⟩
  | idle => exact .inr (.inl ⟨by simp, ReadFrame.refl s⟩)
  | read a => exact .inr (.inl ⟨by simp, hostRead_frame a s⟩)
  | wait =>
    refine .inr (.inl ⟨by simp, ?_⟩)
    have h := hostRead_frame statusAddr s
    simp only [hostMove, hostWait]
    split
    · exact ⟨⟨h.cfg, h.fin, h.err, h.errcode, h.errop, h.config, h.result, h.mlen, h.digest⟩, h.block, h.state,
        h.ovr, h.pending⟩
    · exact h
  | write a v =>
    rcases hostWrite_cases a v s with ⟨hb, h⟩ | ⟨hb, hr, h⟩ | ⟨hb, q, hr, h⟩ | ⟨hb, q, hr, h⟩ | ⟨hb, hr, h⟩
    · exact .inr (.inr (.inl ⟨a, v, rfl, hb, h⟩))
    · exact .inr (.inr (.inr (.inl ⟨a, v, rfl, hb, hr, h⟩)))
    · exact .inr (.inr (.inr (.inr (.inl ⟨a, v, q, rfl, hb, hr, h⟩))))
    · exact .inr (.inr (.inr (.inr (.inr ⟨a, v, q, rfl, hb, hr, h⟩))))
    · refine .inr (.inl ⟨by simp, ?_⟩)
      show ReadFrame s (hostWrite a v s)
      rw [h]
      exact ⟨⟨rfl, rfl, rfl, rfl, rfl, rfl, rfl, rfl, rfl⟩, rfl, rfl, rfl, rfl⟩

/-- A move of the host that is no hard reset writes no control register (10_state.md R102). -/
theorem hostMove_frame {op : HostOp} (h : op ≠ .hardReset) (s : State) : PortFrame s (hostMove op s) := by
  rcases hostMove_cases op s with ⟨h', _⟩ | ⟨_, h⟩ | ⟨_, _, _, _, h⟩ | ⟨_, _, _, _, _, h⟩ | ⟨_, _, _, _, _, _, h⟩ |
    ⟨_, _, _, _, _, _, h⟩
  · exact absurd h' h
  · exact h.toPortFrame
  all_goals rw [h]; constructor <;> simp [latch]

end Sys2Proof.Machine
end

