-- ==== Sys2Proof/Laws/Step.lean ====
section
/-! SUPPORT. What a step can be. -/

namespace Sys2Proof.Machine

open Sys2Proof.Safety

/-- With no command latched the host moves (10_state.md R100). -/
theorem step_idle {s : State} (h : s.pending = none) : step s = .next (hostTurn s) := by
  simp [step, stepMachine, h]

/-- A running command that is not at its last step comes one step nearer, and the host moves
(70_reset_and_hazards.md R704). -/
theorem step_busy {s : State} {p : Pending} (h : s.pending = some p) (hl : 1 < p.left) :
    step s = .next (busyTurn p s) := by
  simp [step, stepMachine, h, Nat.not_le.mpr hl]

/-- A running command at its last step completes (70_reset_and_hazards.md R703). -/
theorem step_complete {s : State} {p : Pending} (h : s.pending = some p) (hl : p.left ≤ 1) :
    step s = runWord p.word s := by
  simp [step, stepMachine, h, hl]

/-- The step after a word is placed runs it. -/
theorem step_loadWord (w : Word) (s : State) : step (loadWord w s) = runWord w (loadWord w s) :=
  step_complete (p := { word := w, left := 1 }) rfl (Nat.le_refl 1)

/-- A run of one step more goes on from the step's next state. -/
theorem run_succ {s t : State} (n : Nat) (h : step s = .next t) :
    Host.Core.run core (n + 1) s = Host.Core.run core n t := by
  have h' : core.step s = .next t := h
  simp only [Host.Core.run, h']

/-- The word decodes to a command: its completion step is that command's. -/
theorem runWord_ok {w : Word} {i : Instr} (h : decode w = .ok i) (s : State) : runWord w s = exec i s := by
  simp [runWord, h]

/-- The word is no command: its completion step is a rejection, or nothing while ERR = 1. -/
theorem runWord_error {w : Word} {e : DecodeError} (h : decode w = .error e) (s : State) :
    runWord w s = rejectWord e s := by
  simp [runWord, h]

/-- Everything a step can be. -/
theorem step_cases (s : State) :
    (s.pending = none ∧ step s = .next (hostTurn s)) ∨
    (∃ p, s.pending = some p ∧ 1 < p.left ∧ step s = .next (busyTurn p s)) ∨
    (∃ p, s.pending = some p ∧ p.left ≤ 1 ∧ step s = runWord p.word s) := by
  cases h : s.pending with
  | none => exact .inl ⟨rfl, step_idle h⟩
  | some p =>
    by_cases hl : p.left ≤ 1
    · exact .inr (.inr ⟨p, rfl, hl, step_complete h hl⟩)
    · exact .inr (.inl ⟨p, rfl, by omega, step_busy h (by omega)⟩)

/-- Everything the completion step of a word can do: be ignored, be rejected, or be the effect of its command
(60_exceptions.md R602). -/
theorem runWord_cases {w : Word} {s t : State} (h : runWord w s = .next t) :
    (s.err = true ∧ t = complete s) ∨
    (s.err = false ∧ ∃ e, t = reject e (opField w) s) ∨
    (∃ i, decode w = .ok i ∧ (s.err = false ∨ i = .sreset ∨ i = .clrerr) ∧ firstError (checksOf i s) = none ∧
      t = complete (effectOf i s)) := by
  have hbad : ∀ e, decodeErrorOp e = opField w → rejectWord e s = .next t →
      (s.err = true ∧ t = complete s) ∨ (s.err = false ∧ ∃ e, t = reject e (opField w) s) := by
    intro e he hr
    unfold rejectWord at hr
    split at hr
    · cases hr; exact .inl ⟨‹_›, rfl⟩
    · cases hr; exact .inr ⟨by simpa using ‹¬s.err = true›, _, by rw [he]⟩
  rcases decode_cases w with ⟨_, hd⟩ | ⟨_, _, hd⟩ | ⟨_, _, i, _, ho, hd⟩
  · rw [runWord_error hd] at h
    rcases hbad (.illegalOpcode (opField w)) rfl h with h | h
    · exact .inl h
    · exact .inr (.inl h)
  · rw [runWord_error hd] at h
    rcases hbad (.reservedField (opField w)) rfl h with h | h
    · exact .inl h
    · exact .inr (.inl h)
  · rw [runWord_ok hd] at h
    rcases exec_cases h with h | ⟨h, e, _, ht⟩ | h
    · exact .inl h
    · exact .inr (.inl ⟨h, e, by rw [ht, ho]⟩)
    · exact .inr (.inr ⟨i, hd, h⟩)

/-- Which agent moves in a step and what it does: a command completes, nothing moves but time, or the host moves
(10_state.md R100, 70_reset_and_hazards.md R704). -/
theorem step_inv {s t : State} (h : step s = .next t) :
    (∃ w, Completes s w ∧ runWord w s = .next t) ∨
    (∃ p : Option Pending, s.host = [] ∧ t = { s with pending := p } ∧ p.isSome = busy s ∧
      ∀ q, p = some q → 1 ≤ q.left) ∨
    (∃ op rest, ∃ p : Option Pending, HostMoves s op ∧ t = hostMove op { s with pending := p, host := rest } ∧
      p.isSome = busy s ∧ ∀ q, p = some q → 1 ≤ q.left) := by
  have hhost : s.host = [] ∨ ∃ op rest, s.host = op :: rest := by cases s.host <;> simp
  rcases step_cases s with ⟨hp, h'⟩ | ⟨p, hp, hl, h'⟩ | ⟨p, hp, hl, h'⟩
  · rw [h'] at h
    cases h
    rcases hhost with ho | ⟨op, rest, ho⟩
    · rw [hostTurn_nil ho]
      exact .inr (.inl ⟨none, ho, by rw [← hp], by simp [busy, hp], by simp⟩)
    · rw [hostTurn_cons ho]
      exact .inr (.inr ⟨op, rest, none, ⟨by simp [hp], rest, ho⟩, by rw [← hp]; rfl, by simp [busy, hp], by simp⟩)
  · rw [h'] at h
    cases h
    have hleft : ∀ q : Pending, some { word := p.word, left := p.left - 1 } = some q → 1 ≤ q.left := by
      intro q hq; cases hq; exact Nat.le_sub_one_of_lt hl
    unfold busyTurn
    rcases hhost with ho | ⟨op, rest, ho⟩
    · rw [hostTurn_nil (by simpa using ho)]
      exact .inr (.inl ⟨_, ho, rfl, by simp [busy, hp], hleft⟩)
    · rw [hostTurn_cons (by simpa using ho)]
      refine .inr (.inr ⟨op, rest, _, ⟨?_, rest, ho⟩, rfl, by simp [busy, hp], hleft⟩)
      intro q hq
      rw [hp] at hq
      cases hq
      exact hl
  · rw [h'] at h
    exact .inl ⟨p.word, ⟨p, hp, hl, rfl⟩, h⟩

end Sys2Proof.Machine
end

