-- ==== Sys2Proof/WellFormed.lean ====
section
/-! DEFINITION. Which commands pass the operand checks that need the command alone (30_encoding.md R302). -/

namespace Sys2Proof

/-- Every operand has its field's width by its type. Two operands have a range besides (30_encoding.md R302): SBOX's t
and INIT's digest size. A command outside its range still has an encoding and a meaning: the core rejects it
(60_exceptions.md R602), so nothing in the model asks for this check (DESIGN CHOICE, safe; log 14). -/
def Instr.wellFormed : Instr → Bool
  | .init d => Machine.validDigestBits d
  | .sbox t _ => Machine.validSboxIndex t
  | .nop | .sreset | .clrerr | .absorb | .final _ | .gfmul _ _ | .gftab _ _ | .subb | .shiftr | .mixc
  | .addrcp _ | .addrcq _ | .roundp _ | .roundq _ | .permp | .permq | .xorb | .tcomp | .outt | .trunc => true

end Sys2Proof
end

