-- ==== Sys2Proof/Tests/Slice0.lean ====
section
/-! SUPPORT. Small tests of one step or one word, with the values printed in 95_test_vectors.md and the rules it cites;
and, for every statement with hypotheses, a state and operands that meet them. -/

namespace Sys2Proof.Tests

open Sys2Proof.Machine Sys2Proof.Safety

/-! ## States the tests start from -/

/-- The state a step leaves; the state itself should a step leave none. -/
def after (r : Result) (s : State) : State :=
  match r with
  | .next t => t
  | .fault _ | .refused _ => s

/-- One step with this command word latched. -/
def runs (w : Nat) (s : State) : State := after (step (s.withFetchWord 32 w)) s

/-- k bytes counting up from 0: the k-state of 95_test_vectors.md section 2.3. -/
def counting : Buf := Vector.ofFn fun k => BitVec.ofNat 8 k.val

/-- An 8-column context, STATE all zero. -/
def ctx8 : State := { State.reset with cfg := true, config := contextOf 256 }

/-- A 16-column context, STATE all zero. -/
def ctx16 : State := { State.reset with cfg := true, config := contextOf 512 }

/-- An 8-column context with this STATE. -/
def with8 (X : Buf) : State := setChain X ctx8

/-- An 8-column state whose every column is these bytes. -/
def columns (l : List Byte) : State := with8 (Vector.ofFn fun k => l.getD (k.val % 8) 0)

/-- An 8-column context of one round: a state no INIT leaves, small enough for the kernel. -/
def oneRound (X : Buf) : State := setChain X { ctx8 with config := { dbits := 256, rounds := 1, cols := 8 } }

/-- An error stands: the state after a rejected INIT 12 (43_hash_control.md R462). -/
def failed : State := { State.reset with err := true, errcode := 4, errop := 0x10 }

/-! ## WellFormed refuses the ill-formed (30_encoding.md R302) -/

theorem test_wf_init : (Instr.init 256).wellFormed = true := by decide
theorem test_wf_init_zero : (Instr.init 0).wellFormed = false := by decide
theorem test_wf_init_not_bytes : (Instr.init 12).wellFormed = false := by decide
theorem test_wf_init_large : (Instr.init 520).wellFormed = false := by decide
theorem test_wf_sbox : (Instr.sbox 3 0xFF).wellFormed = true := by decide
theorem test_wf_sbox_four : (Instr.sbox 4 0).wellFormed = false := by decide

/-! ## Words written out from 30_encoding.md R300, R301, R303 -/

theorem test_word_nop : decode 0b00000000_00000000_00000000_00000000 = .ok .nop := by decide
theorem test_word_sreset : decode 0b00000001_00000000_00000000_00000000 = .ok .sreset := by decide
theorem test_word_clrerr : decode 0b00000010_00000000_00000000_00000000 = .ok .clrerr := by decide
theorem test_word_init : decode 0b00010000_00000000_00000001_10000000 = .ok (.init 384) := by decide
theorem test_word_absorb : decode 0b00010001_00000000_00000000_00000000 = .ok .absorb := by decide
theorem test_word_final : decode 0b00010010_00000000_00000000_01100100 = .ok (.final 100) := by decide
theorem test_word_gfmul : decode 0b00100000_01010111_10000011_00000000 = .ok (.gfmul 0x57 0x83) := by decide
theorem test_word_gftab : decode 0b00100001_00000010_10000000_00000000 = .ok (.gftab 0x02 0x80) := by decide
theorem test_word_sbox : decode 0b00100010_00000011_11111111_00000000 = .ok (.sbox 3 0xFF) := by decide
theorem test_word_subb : decode 0b00110000_00000000_00000000_00000000 = .ok .subb := by decide
theorem test_word_shiftr : decode 0b00110001_00000000_00000000_00000000 = .ok .shiftr := by decide
theorem test_word_mixc : decode 0b00110010_00000000_00000000_00000000 = .ok .mixc := by decide
theorem test_word_addrcp : decode 0b00110011_00000101_00000000_00000000 = .ok (.addrcp 5) := by decide
theorem test_word_addrcq : decode 0b00110100_00001001_00000000_00000000 = .ok (.addrcq 9) := by decide
theorem test_word_roundp : decode 0b00110101_11111111_00000000_00000000 = .ok (.roundp 255) := by decide
theorem test_word_roundq : decode 0b00110110_00001101_00000000_00000000 = .ok (.roundq 13) := by decide
theorem test_word_permp : decode 0b01000000_00000000_00000000_00000000 = .ok .permp := by decide
theorem test_word_permq : decode 0b01000001_00000000_00000000_00000000 = .ok .permq := by decide
theorem test_word_xorb : decode 0b01000010_00000000_00000000_00000000 = .ok .xorb := by decide
theorem test_word_tcomp : decode 0b01000011_00000000_00000000_00000000 = .ok .tcomp := by decide
theorem test_word_outt : decode 0b01000100_00000000_00000000_00000000 = .ok .outt := by decide
theorem test_word_trunc : decode 0b01000101_00000000_00000000_00000000 = .ok .trunc := by decide

theorem test_word_reserved : decode 0x20575701 = .error (.reservedField 0x20) := by decide
theorem test_word_illegal : decode 0x46000000 = .error (.illegalOpcode 0x46) := by decide
theorem test_table_word : decodeTableWord 32 0x12000001 = some (.final 1) := by decide
theorem test_encode_init : encode (.init 256) = 0x10000100 := by decide
theorem test_assemble : assemble "SBOX" [3, 0xFF] = some (.sbox 3 0xFF) := by decide
theorem test_assemble_wide : assemble "GFMUL" [256, 0] = none := by decide

/-! ## One step of each command (95_test_vectors.md sections 2.1 to 2.8) -/

theorem test_nop : runs 0x00000000 State.reset = State.reset := by rfl
theorem test_nop_ignored : statusWord (runs 0x00000000 failed) = 0x00100408 := by decide
theorem test_sreset_while_err : statusWord (runs 0x01000000 failed) = 0 := by decide
theorem test_sreset_config : configWord (runs 0x01000000 ctx8).config = 0 := by decide
theorem test_clrerr : statusWord (runs 0x02000000 failed) = 0 := by decide
theorem test_clrerr_inexact : statusWord (runs 0x02000001 failed) = 0x00100408 := by decide
theorem test_init_256 :
    configWord (runs 0x10000100 State.reset).config = 0x080A0100 ∧ statusWord (runs 0x10000100 State.reset) = 2 ∧
      byteAt (runs 0x10000100 State.reset).state 0 = 0x40 := by decide
theorem test_init_264 :
    configWord (runs 0x10000108 State.reset).config = 0x100E0108 ∧
      byteAt (runs 0x10000108 State.reset).state 0 = 0x80 := by decide
theorem test_absorb_mlen : (runs 0x11000000 ctx8).mlen = 512 := by decide
theorem test_absorb_overflow :
    statusWord (runs 0x11000000 { ctx8 with mlen := 0xFFFFFFFFFFFFFE00 }) = 0x0011080A := by decide
theorem test_final_status : statusWord (runs 0x1200003F ctx8) = 6 ∧ (runs 0x1200003F ctx8).mlen = 504 := by decide
theorem test_final_tail : statusWord (runs 0x12000040 ctx8) = 0x0012070A := by decide
theorem test_gfmul : (runs 0x20578300 State.reset).result = 0x31 := by decide
theorem test_gfmul_reduces : (runs 0x20028000 State.reset).result = 0x1D := by decide
theorem test_gftab : (runs 0x21FFFF00 State.reset).result = 0xE2 := by decide
theorem test_sbox : (runs 0x2203FF00 State.reset).result = 0x61 := by decide
theorem test_sbox_index : statusWord (runs 0x22040000 State.reset) = 0x00220308 := by decide
theorem test_subb :
    byteAt (runs 0x30000000 (with8 counting)).state 1 = 0xBB ∧
      byteAt (runs 0x30000000 (with8 counting)).state 63 = 0xDF := by decide +kernel
theorem test_shiftr :
    byteAt (runs 0x31000000 (with8 counting)).state 1 = 0x39 ∧
      byteAt (runs 0x31000000 (with8 counting)).state 7 = 0x0F := by decide +kernel
theorem test_shiftr_16 : byteAt (runs 0x31000000 (setChain counting ctx16)).state 7 = 0x2F := by decide +kernel
theorem test_mixc : byteAt (runs 0x32000000 (columns [1, 2, 3, 4, 5, 6, 7, 8])).state 3 = 0x5C := by decide +kernel
theorem test_mixc_orientation :
    byteAt (runs 0x32000000 (columns [1, 0, 0, 0, 0, 0, 0, 0])).state 1 = 0x04 := by decide +kernel
theorem test_addrcp :
    byteAt (runs 0x33050000 ctx16).state 120 = 0xF5 ∧ byteAt (runs 0x33050000 ctx16).state 121 = 0 := by
  decide +kernel
theorem test_addrcq_carry :
    byteAt (runs 0x34000000 (columns [0x0D, 0x10, 0x0F, 0x0F, 0x0F, 0x0F, 0x0F, 0x0F])).state 7 = 0x80 := by
  decide +kernel
theorem test_addrcq_16 : byteAt (runs 0x340D0000 ctx16).state 7 = 0xFD := by decide +kernel
theorem test_roundp : byteAt (runs 0x35000000 ctx8).state 8 = 0xFA := by decide +kernel
theorem test_roundq : byteAt (runs 0x36000000 ctx8).state 0 = 0x81 := by decide +kernel
/-- One round of P is ROUNDP 0 (42_permutations_compression.md R440). -/
theorem test_permp : byteAt (runs 0x40000000 (oneRound (Vector.replicate 128 0))).state 1 = 0xCC := by decide +kernel
theorem test_permp_no_context : statusWord (runs 0x40000000 State.reset) = 0x00400508 := by decide
theorem test_permq : byteAt (runs 0x41000000 (oneRound (Vector.replicate 128 0))).state 1 = 0x04 := by decide +kernel
theorem test_xorb :
    byteAt (runs 0x42000000 (setBlock counting (with8 (initialState 8)))).state 0 = 0x40 ∧
      byteAt (runs 0x42000000 (setBlock counting (with8 (initialState 8)))).state 63 = 63 := by decide +kernel
/-- T(0, 0) = P(0) ^ Q(0), over one round: 0x3F ^ 0x81 (42_permutations_compression.md R446). -/
theorem test_tcomp : byteAt (runs 0x43000000 (oneRound (Vector.replicate 128 0))).state 0 = 0xBE := by decide +kernel
theorem test_tcomp_mlen : (runs 0x43000000 ctx8).mlen = 0 := by decide
theorem test_outt : byteAt (runs 0x44000000 (oneRound (Vector.replicate 128 0))).state 0 = 0x3F := by decide +kernel
theorem test_trunc :
    byteAt (runs 0x45000000 (with8 counting)).digest 0 = 32 ∧
      byteAt (runs 0x45000000 (with8 counting)).digest 31 = 63 ∧
      byteAt (runs 0x45000000 (with8 counting)).digest 32 = 0 := by decide +kernel
theorem test_check_order : statusWord (runs 0x22050001 State.reset) = 0x00220208 := by decide
theorem test_illegal : statusWord (runs 0xFF123456 State.reset) = 0x00FF0108 := by decide

/-! ## The host port (95_test_vectors.md section 2.9) and the busy window -/

/-- One step in which the host does this and no command is running. -/
def hostDoes (op : HostOp) (s : State) : State := after (step (setHost [op] s)) s

/-- One step in which the host does this while a NOP has two more steps to run. -/
def busyDoes (op : HostOp) (s : State) : State := hostDoes op (setPending { word := 0, left := 3 } s)

theorem test_read_id : (hostDoes (.read 0x000) State.reset).trace = [.ofRead .okay 0x5A504831] := by decide
theorem test_read_reserved : (hostDoes (.read 0x014) State.reset).trace = [.ofRead .slverr 0] := by decide
theorem test_read_misaligned : (hostDoes (.read 0x002) State.reset).trace = [.ofRead .slverr 0] := by decide
theorem test_read_block_word : (hostDoes (.read 0x084) (setBlock counting State.reset)).trace =
    [.ofRead .okay 0x07060504] := by decide +kernel
theorem test_write_read_only : hostDoes (.write 0x180 5) State.reset =
    { State.reset with trace := [.ofWrite .slverr] } := by rfl
theorem test_write_state : (List.range 4).map (fun k => byteAt (hostDoes (.write 0x17C 0xDDCCBBAA) State.reset).state (124 + k)) =
    [0xAA, 0xBB, 0xCC, 0xDD] := by decide +kernel
theorem test_write_cmd : busy (hostDoes (.write 0x004 0x10000100) State.reset) = true := by decide
theorem test_busy_write : statusWord (busyDoes (.write 0x080 7) State.reset) = 0x11 ∧
    (busyDoes (.write 0x080 7) State.reset).trace = [.ofWrite .okay] := by decide
theorem test_busy_status : (busyDoes (.read 0x008) State.reset).trace = [.ofRead .okay 1] := by decide
theorem test_hard_reset : busyDoes .hardReset ctx8 = State.reset := by rfl
theorem test_load_block : progLoadBlock [0x11, 0x22, 0x33, 0x44, 0x55] =
    [.write 0x080 0x44332211, .write 0x084 0x00000055] := by decide
/-- V3's first words (95_test_vectors.md section 2.9), RDDIGEST 6. -/
theorem test_read_digest : readDigestBytes 6 [.ofRead .okay 0x1D0DDFCC, .ofRead .okay 0xD10151CD, .ofWrite .okay] =
    [0xCD, 0x51, 0x01, 0xD1, 0xCC, 0xDF] := by decide
theorem test_check : checkFailed 0x00100408 = true ∧ checkFailed 0x00000006 = false := by decide

/-! ## Witnesses: what meets the hypotheses of each statement -/

theorem working8 : Working ctx8 := ⟨rfl, rfl, .inr ⟨rfl, 256, by decide, rfl⟩⟩
theorem working16 : Working ctx16 := ⟨rfl, rfl, .inr ⟨rfl, 512, by decide, rfl⟩⟩
theorem legal_reset : LegalContext State.reset := .inl ⟨rfl, rfl⟩

theorem inv_ctx8 : CoreInv ctx8 where
  context := working8.2.2
  error := .inl ⟨rfl, rfl, rfl⟩
  finalized := by intro h; cases h
  digestTail := by intro k _ hk; rw [byteAt_lt _ hk]; simp [ctx8, State.reset]
  wholeBytes := rfl
  latency := by intro p hp; cases hp

/-- ABSORB is latched and one step from its completion. -/
def absorbing (s : State) : State := loadWord 0x11000000 s

/-- The host has this to do, and a NOP has two more steps to run. -/
def busyHost (ops : List HostOp) : State := setHost ops (setPending { word := 0, left := 3 } ctx8)

theorem busyHost_moves (op : HostOp) (ops : List HostOp) : HostMoves (busyHost (op :: ops)) op :=
  ⟨by intro p hp; cases hp; decide, ops, rfl⟩

theorem loadWord_completes (w : Word) (s : State) : Completes (loadWord w s) w := ⟨_, rfl, Nat.le_refl 1, rfl⟩

theorem witness_DecodedWordIsItsEncoding : decode 0x1200003F = .ok (.final 63) ∧ encode (.final 63) = 0x1200003F := by
  decide
theorem witness_IllegalOpcodesRejected : State.reset.err = false ∧
    [0x03, 0x0F, 0x13, 0x1F, 0x23, 0x2F, 0x37, 0x3F, 0x46, 0xFF].all (fun op : Byte =>
      (0x03 ≤ op.toNat ∧ op.toNat ≤ 0x0F) ∨ (0x13 ≤ op.toNat ∧ op.toNat ≤ 0x1F) ∨
        (0x23 ≤ op.toNat ∧ op.toNat ≤ 0x2F) ∨ (0x37 ≤ op.toNat ∧ op.toNat ≤ 0x3F) ∨ 0x46 ≤ op.toNat) := by decide
theorem witness_ReservedFieldsRejected : State.reset.err = false ∧ opField 0x11000001 ∈ opcodes ∧
    (0x11000001 : Word) &&& zeroBits (opField 0x11000001) ≠ 0 := by decide
theorem witness_GfMulFieldLaws : (2 : Byte) ≠ 0 ∧ 0 < 254 ∧ 254 < 255 := by decide
theorem witness_GfmulAndGftabWriteProduct : State.reset.err = false := rfl
theorem witness_SboxesAreBijections : 3 < 4 := by decide
theorem witness_SboxLooksUpOrRejects :
    State.reset.err = false ∧ (3 : Byte).toNat ≤ 3 ∧ 3 < (4 : Byte).toNat := by decide

theorem witness_SubbSubstitutesEveryByte : Working ctx8 ∧ (7 < colsOf ctx8 ∧ 7 < 8) ∧ (8 * colsOf ctx8 ≤ 64 ∧ 64 < 128) :=
  ⟨working8, by decide⟩
theorem witness_ShiftrMovesRows : Working ctx8 ∧ (7 < colsOf ctx8 ∧ 7 < 8) ∧ (8 * colsOf ctx8 ≤ 64 ∧ 64 < 128) :=
  ⟨working8, by decide⟩
theorem witness_MixcMultipliesColumnsByMds : Working ctx8 ∧ (7 < colsOf ctx8 ∧ 7 < 8) ∧ (8 * colsOf ctx8 ≤ 64 ∧ 64 < 128) :=
  ⟨working8, by decide⟩
theorem witness_AddrcpXorsRowZero : Working ctx8 ∧ (7 < colsOf ctx8 ∧ 7 < 8) ∧ (8 * colsOf ctx8 ≤ 64 ∧ 64 < 128) :=
  ⟨working8, by decide⟩
theorem witness_AddrcqAddsColumnConstants : Working ctx8 ∧ (7 < colsOf ctx8 ∧ 7 < 8) ∧ (8 * colsOf ctx8 ≤ 64 ∧ 64 < 128) :=
  ⟨working8, by decide⟩
theorem witness_RoundIsFourLayers : Working ctx8 ∧ Working ctx16 := ⟨working8, working16⟩
theorem witness_MixcIsLinear : Working ctx8 ∧ Working ctx16 := ⟨working8, working16⟩
theorem witness_PermutationIsItsRounds : Working ctx8 ∧ Working ctx16 := ⟨working8, working16⟩
theorem witness_RepeatedLayersRestoreState : Working ctx8 ∧ colsOf ctx8 = 8 ∧ Working ctx16 := ⟨working8, rfl, working16⟩
theorem witness_XorbXorsBlock : Working ctx8 ∧ 63 < 8 * colsOf ctx8 ∧ 8 * colsOf ctx8 ≤ 64 ∧ 64 < 128 :=
  ⟨working8, by decide⟩
theorem witness_TcompIsPXorQXorState : Working ctx8 ∧ 63 < 8 * colsOf ctx8 ∧ 8 * colsOf ctx8 ≤ 64 ∧ 64 < 128 :=
  ⟨working8, by decide⟩
theorem witness_OuttXorsPermutedState : Working ctx8 ∧ 63 < 8 * colsOf ctx8 ∧ 8 * colsOf ctx8 ≤ 64 ∧ 64 < 128 :=
  ⟨working8, by decide⟩
theorem witness_TruncTakesTrailingBytes : Working ctx8 ∧ 31 < digestBytes ctx8 ∧ digestBytes ctx8 ≤ 32 ∧ 32 < 64 :=
  ⟨working8, by decide⟩
theorem witness_InitLoadsContextAndState : State.reset.err = false ∧
    [8, 256, 264, 512].all (fun d : BitVec 16 => d.toNat % 8 = 0 ∧ 8 ≤ d.toNat ∧ d.toNat ≤ 512) ∧
    (256 : BitVec 16).toNat ≤ 256 ∧ 256 < (264 : BitVec 16).toNat := by decide
theorem witness_AbsorbCompressesAndCounts : Working { ctx8 with mlen := 0xFFFFFFFFFFFFFDFF } ∧
    ({ ctx8 with mlen := 0xFFFFFFFFFFFFFDFF } : State).mlen.toNat + 64 * colsOf ctx8 ≤ 2 ^ 64 - 1 :=
  ⟨⟨rfl, rfl, .inr ⟨rfl, 256, by decide, rfl⟩⟩, by decide⟩
theorem witness_PaddingFillsWholeBlocks : (List.replicate 51 (0 : Byte)).length ≤ 64 - 13 ∧
    (List.replicate 52 (0 : Byte)).length < 64 ∧ 64 - 13 < (List.replicate 52 (0 : Byte)).length ∧
    (List.replicate 127 (0 : Byte)).length < 128 := by decide
theorem witness_FinalDigestComesFromStages : Working ctx8 ∧ ctx8.fin = false ∧ (63 : Byte).toNat < 8 * colsOf ctx8 ∧
    ctx8.mlen.toNat + 8 * (63 : Byte).toNat ≤ 2 ^ 64 - 1 := ⟨working8, by decide⟩
theorem witness_FinalClosesComputation : Working ctx16 ∧ ctx16.fin = false ∧ (127 : Byte).toNat < 8 * colsOf ctx16 ∧
    ctx16.mlen.toNat + 8 * (127 : Byte).toNat ≤ 2 ^ 64 - 1 ∧ digestBytes ctx8 ≤ 32 ∧ 32 < 64 :=
  ⟨working16, by decide⟩
theorem witness_FinalReadsOnlyTheTail : ∀ k, k < (1 : Byte).toNat →
    byteAt (Vector.ofFn fun j : Fin 128 => if j.val = 0 then 0 else 9 : Buf) k = byteAt ctx8.block k := by
  decide +kernel
theorem witness_BytesOutsideContextUnread : LegalContext ctx8 ∧ LegalContext State.reset ∧
    ∀ k, k < 64 → byteAt (Vector.ofFn fun j : Fin 128 => if j.val < 64 then 0 else 9 : Buf) k = byteAt ctx8.state k :=
  ⟨working8.2.2, legal_reset, by decide +kernel⟩
/-- One full block and a tail of one byte, at 256 bits. -/
theorem witness_CommandsComputeTheHash : State.reset.err = false ∧ validDigestBits 256 = true ∧
    8 * (List.replicate 65 (0xFF : Byte)).length ≤ 2 ^ 64 - 1 ∧
    ∀ j, j < (List.replicate 65 (0xFF : Byte)).length % (8 * (contextOf 256).cols.toNat) →
      some (byteAt (Vector.replicate 128 0xFF : Buf) j) =
        (List.replicate 65 (0xFF : Byte))[(List.replicate 65 (0xFF : Byte)).length /
          (8 * (contextOf 256).cols.toNat) * (8 * (contextOf 256).cols.toNat) + j]? :=
  ⟨rfl, by decide, by decide, by decide +kernel⟩
theorem witness_ShorterDigestIsTrailing :
    (validDigestBits 48 = true ∧ validDigestBits 256 = true ∧ (48 : BitVec 16).toNat ≤ (256 : BitVec 16).toNat ∧
      (256 : BitVec 16).toNat ≤ 256) ∧
    (validDigestBits 264 = true ∧ validDigestBits 512 = true ∧ (264 : BitVec 16).toNat ≤ (512 : BitVec 16).toNat ∧
      256 < (264 : BitVec 16).toNat) := by decide
/-- Each outcome of the check order is met: ignored, each code, performed. -/
theorem witness_ExecutionFollowsCheckOrder :
    (failed.err = true ∧ (0 : Word) ≠ 0x01000000 ∧ (0 : Word) ≠ 0x02000000) ∧
    [checkOrder 0x03000000 ctx8, checkOrder 0x00000001 ctx8, checkOrder 0x22040000 ctx8, checkOrder 0x1000000C ctx8,
      checkOrder 0x45000000 State.reset, checkOrder 0x11000000 { ctx8 with fin := true }, checkOrder 0x12000040 ctx8,
      checkOrder 0x11000000 { ctx8 with mlen := 0xFFFFFFFFFFFFFE00 },
      checkOrder 0x12000001 { ctx8 with mlen := 0xFFFFFFFFFFFFFFF8 }, checkOrder 0x1200003F ctx8] =
      [1, 2, 3, 4, 5, 6, 7, 8, 8, 0] := by decide
theorem witness_RejectionIsTheErrorAction : ctx8.err = false ∧ ∃ t, step (loadWord 0x12000040 ctx8) = .next t ∧ t.err = true :=
  ⟨rfl, _, rfl, rfl⟩
theorem witness_ErrorBlocksAllButTwoWords : failed.err = true ∧ (0x02000001 : Word) ≠ 0x01000000 ∧
    (0x02000001 : Word) ≠ 0x02000000 := by decide
theorem witness_ContextRule :
    (∃ t, step (loadWord 0x10000100 State.reset) = .next t ∧ t.cfg = true) ∧
    (∃ t, step (loadWord 0x01000000 ctx8) = .next t ∧ t.cfg = false) ∧
    (opcodeOf .trunc ∈ contextOpcodes ∧ State.reset.err = false ∧ State.reset.cfg = false) :=
  ⟨⟨_, rfl, rfl⟩, ⟨_, rfl, rfl⟩, by decide⟩
theorem witness_FinalizedRule :
    (∃ t, step (loadWord 0x12000000 ctx8) = .next t ∧ t.fin = true) ∧
    (∃ t, step (loadWord 0x10000100 { ctx8 with fin := true }) = .next t ∧ t.fin = false) ∧
    (∃ t, step (setHost [.hardReset] { ctx8 with fin := true }) = .next t ∧ t.fin = false) ∧
    ({ ctx8 with fin := true } : State).fin = true :=
  ⟨⟨_, rfl, rfl⟩, ⟨_, rfl, rfl⟩, ⟨_, rfl, rfl⟩, rfl⟩
theorem witness_ErrorFieldsWriters :
    (∃ t, step (loadWord 0x46000000 ctx8) = .next t ∧ t.err = true) ∧
    (∃ t, step (loadWord 0x02000000 failed) = .next t ∧ t.err = false) := ⟨⟨_, rfl, rfl⟩, ⟨_, rfl, rfl⟩⟩
theorem witness_OverrunRule :
    (HostMoves (busyHost [.write 0x080 7]) (.write 0x080 7) ∧ busy (busyHost [.write 0x080 7]) = true) ∧
    (∃ t, step (loadWord 0x02000000 { ctx8 with ovr := true }) = .next t ∧ t.ovr = false) :=
  ⟨⟨busyHost_moves _ _, rfl⟩, ⟨_, rfl, rfl⟩⟩
theorem witness_RegistersChangeOnlyByTheirCommands :
    ∃ t, exec (.gfmul 2 0x80) State.reset = .next t ∧ t.result ≠ State.reset.result := ⟨_, rfl, by decide⟩
theorem witness_HostWritesNoControlRegister :
    (HostMoves (busyHost [.wait]) .wait ∧ HostOp.wait ≠ .hardReset) ∧
    (HostMoves (setHost [.write 0x17C 7] ctx8) (.write 0x17C 7) ∧ HostOp.write 0x17C 7 ≠ .hardReset) :=
  ⟨⟨busyHost_moves _ _, by decide⟩, ⟨(by intro p hp; cases hp), [], rfl⟩, by decide⟩
theorem witness_AddressMapDecodes : regAt 0x0FC = some (.block 31) ∧ regAt 0x17C = some (.state 31) ∧
    regAt 0x1BC = some (.digest 15) ∧ 31 < 32 ∧ 15 < 16 := by decide
theorem witness_IdleReadsGiveRegisters : (setHost [.read 0x1BC] ctx8).pending = none ∧
    (setHost [.read 0x1BC] ctx8).host = .read 0x1BC :: [] ∧ regAt 0x1BC = some (.digest 15) ∧
    [0x000, 0x004, 0x008, 0x00C, 0x010, 0x018, 0x01C, 0x0FC, 0x17C].map regAt =
      [some .id, some .cmd, some .status, some .config, some .result, some .mlenLo, some .mlenHi, some (.block 31),
        some (.state 31)] := by decide
theorem witness_ArrayWriteReadsBack : (setHost [.write 0x17C 7, .read 0x17C] ctx8).pending = none ∧
    (setHost [.write 0x17C 7, .read 0x17C] ctx8).host = .write 0x17C 7 :: .read 0x17C :: [] ∧
    regAt 0x17C = some (.state 31) ∧ regAt 0x0FC = some (.block 31) := by decide
theorem witness_RefusedAccessesChangeNothing :
    ((setHost [.read 0x3FF] ctx8).pending = none ∧ regAt 0x3FF = none) ∧
    (∃ r, regAt 0x008 = some r ∧ r ≠ .cmd ∧ (∀ q, r ≠ .block q) ∧ ∀ q, r ≠ .state q) ∧
    ((busyHost [.write 0x3FF 7]).pending = some { word := 0, left := 3 } ∧ 1 < 3) ∧
    ((busyHost [.read 0x3FF]).pending = some { word := 0, left := 3 } ∧ regAt 0x3FF = none) :=
  ⟨⟨rfl, by decide⟩, ⟨.status, by decide, by decide, by simp, by simp⟩, ⟨rfl, by decide⟩, rfl, by decide⟩
theorem witness_BusyReads : (busyHost [.read 0x008]).pending = some { word := 0, left := 3 } ∧ 1 < 3 ∧
    (busyHost [.read 0x008]).host = .read 0x008 :: [] ∧ regAt 0x008 = some .status ∧ regAt 0x00C = some .config ∧
    HostReg.config ≠ .status ∧ regAt 0x014 = none := by decide
theorem witness_CmdWriteLatches : (setHost [.write 0x004 0] ctx8).pending = none ∧
    (setHost [.write 0x004 0] ctx8).host = .write 0x004 0 :: [] := by decide
theorem witness_StepRunsTheDecodedCommand : (absorbing ctx8).pending = some { word := 0x11000000, left := 1 } ∧
    decode 0x11000000 = .ok .absorb := by decide
theorem witness_StepAlwaysHasNextState : State.reset.pending = none ∧ State.reset.host = [] := by decide
theorem witness_HardResetFromAnyState : (∀ p, (busyHost [.hardReset]).pending = some p → 1 < p.left) ∧
    (busyHost [.hardReset]).host = .hardReset :: [] := ⟨(busyHost_moves _ _).1, rfl⟩
theorem witness_LatchedCommandCompletes :
    HostOp.hardReset ∉ (setHost [.wait, .write 0x080 1, .hardReset] ctx8).host.take 2 := by decide
theorem witness_ResultIndependentOfLatency :
    HostOp.hardReset ∉ (setHost [.wait, .read 0x008, .hardReset] ctx8).host.take 2 ∧
    (∀ a v, HostOp.write a v ∉ (setHost [.wait, .read 0x008, .hardReset] ctx8).host.take 2) ∧ ctx8.host = [] :=
  ⟨by decide, by simp [setHost], rfl⟩
theorem witness_RddigestReadsTheDigest : 64 ≤ 64 ∧ (setHost (progReadDigest 64 ++ [.wait]) ctx8).pending = none ∧
    (setHost (progReadDigest 64 ++ [.wait]) ctx8).host = progReadDigest 64 ++ [.wait] := ⟨by decide, rfl, rfl⟩
theorem witness_StepKeepsInvariant : CoreInv ctx8 ∧ ∃ t, step ctx8 = .next t := ⟨inv_ctx8, _, rfl⟩

end Sys2Proof.Tests
end

namespace Sys2Proof.Machine

open Sys2Proof.Safety

/-! ## The invariant of 10_state.md, one rule per state operation -/

section Invariant
variable {s t : State}

/-- Right after a hard reset there is no context, no error, no digest, no message and no command (10_state.md R121). -/
theorem coreInv_reset : CoreInv State.reset where
  context := .inl ⟨rfl, rfl⟩
  error := .inl ⟨rfl, rfl, rfl⟩
  finalized h := nomatch h
  digestTail k _ hk := by rw [byteAt_lt _ hk]; simp [State.reset]
  wholeBytes := rfl
  latency _ h := nomatch h

/-- The invariant reads no register that the port can write, and of the pending command only its steps to go. -/
theorem coreInv_of_portFrame (h : CoreInv s) (hf : PortFrame s t) (hl : ∀ p, t.pending = some p → 1 ≤ p.left) :
    CoreInv t where
  context := by simpa only [LegalContext, hf.cfg, hf.config] using h.context
  error := by simpa only [LegalError, hf.err, hf.errcode, hf.errop] using h.error
  finalized := by simpa only [hf.fin, hf.cfg] using h.finalized
  digestTail := by simpa only [digestBytes, hf.config, hf.digest] using h.digestTail
  wholeBytes := by simpa only [hf.mlen] using h.wholeBytes
  latency := hl

theorem coreInv_resetCore (s : State) : CoreInv (resetCore s) :=
  coreInv_of_portFrame coreInv_reset ⟨rfl, rfl, rfl, rfl, rfl, rfl, rfl, rfl, rfl⟩ nofun

theorem coreInv_complete (h : CoreInv s) : CoreInv (complete s) :=
  ⟨h.context, h.error, h.finalized, h.digestTail, h.wholeBytes, nofun⟩

theorem coreInv_clearErrors (h : CoreInv s) : CoreInv (clearErrors s) :=
  ⟨h.context, .inl ⟨rfl, rfl, rfl⟩, h.finalized, h.digestTail, h.wholeBytes, h.latency⟩

/-- Only the codes 1 to 8 are recorded (60_exceptions.md R600). -/
theorem errorNumber_range (e : ErrorCode) : 1 ≤ (errorNumber e).toNat ∧ (errorNumber e).toNat ≤ 8 := by
  cases e <;> decide

theorem coreInv_markError (e : ErrorCode) (op : Byte) (h : CoreInv s) : CoreInv (markError e op s) :=
  ⟨h.context, .inr ⟨rfl, errorNumber_range e⟩, h.finalized, h.digestTail, h.wholeBytes, h.latency⟩

theorem coreInv_setResult (b : Byte) (h : CoreInv s) : CoreInv (setResult b s) :=
  ⟨h.context, h.error, h.finalized, h.digestTail, h.wholeBytes, h.latency⟩

theorem coreInv_setChain (X : Buf) (h : CoreInv s) : CoreInv (setChain X s) :=
  ⟨h.context, h.error, h.finalized, h.digestTail, h.wholeBytes, h.latency⟩

theorem coreInv_setFin (hc : s.cfg = true) (h : CoreInv s) : CoreInv (setFin s) :=
  ⟨h.context, h.error, fun _ => hc, h.digestTail, h.wholeBytes, h.latency⟩

theorem coreInv_setMlen {v : Word64} (hv : v.toNat % 8 = 0) (h : CoreInv s) : CoreInv (setMlen v s) :=
  ⟨h.context, h.error, h.finalized, h.digestTail, hv, h.latency⟩

/-- The bit counts that ABSORB and FINAL add are multiples of 8, and so is 2^64: MLEN still counts whole bytes. -/
theorem mlen_add_wholeBytes (k : Nat) (h : CoreInv s) : (s.mlen + BitVec.ofNat 64 (8 * k)).toNat % 8 = 0 := by
  have h8 := h.wholeBytes
  simp only [BitVec.toNat_add, BitVec.toNat_ofNat]
  omega

/-- DIGEST is written with zeros past the digest (10_state.md R116). -/
theorem coreInv_setDigest {D : Vector Byte 64} (hD : ∀ k, digestBytes s ≤ k → k < 64 → byteAt D k = 0)
    (h : CoreInv s) : CoreInv (setDigest D s) :=
  ⟨h.context, h.error, h.finalized, hD, h.wholeBytes, h.latency⟩

theorem coreInv_setDigest_trunc (c : Nat) (F : Buf) (h : CoreInv s) :
    CoreInv (setDigest (truncDigest c (digestBytes s) F) s) :=
  coreInv_setDigest (fun _ => byteAt_truncDigest_past F) h

/-- INIT of a valid size loads a listed context and clears MLEN and DIGEST (43_hash_control.md R463). -/
theorem coreInv_initEffect {d : BitVec 16} (hd : validDigestBits d = true) (h : CoreInv s) :
    CoreInv (initEffect d s) where
  context := .inr ⟨rfl, d, hd, rfl⟩
  error := h.error
  finalized _ := rfl
  digestTail k _ hk := by
    rw [byteAt_lt _ hk]
    simp [initEffect]
  wholeBytes := by simp [initEffect]
  latency := h.latency

/-- A command whose checks begin with the context's, once it passes them, runs in a context (10_state.md R107). -/
theorem cfg_of_checks {l : List (Bool × ErrorCode)} (h : firstError (needsContext s :: l) = none) :
    s.cfg = true := by
  cases hc : s.cfg
  · simp [needsContext, hc] at h
  · rfl

/-- The effect of a command that passed its checks keeps the invariant. -/
theorem coreInv_effectOf {i : Instr} (h : CoreInv s) (hc : firstError (checksOf i s) = none) :
    CoreInv (effectOf i s) := by
  cases i with
  | nop => exact h
  | sreset => exact coreInv_resetCore s
  | clrerr => exact coreInv_clearErrors h
  | init d =>
    have hd : validDigestBits d = true := by simpa [checksOf] using hc
    exact coreInv_initEffect hd h
  | absorb => exact coreInv_setMlen (mlen_add_wholeBytes _ h) (coreInv_setChain _ h)
  | final n =>
    have hcfg : s.cfg = true := cfg_of_checks hc
    exact coreInv_setFin (by simpa using hcfg)
      (coreInv_setMlen (mlen_add_wholeBytes _ h) (coreInv_setChain _ (coreInv_setDigest_trunc _ _ h)))
  | gfmul | gftab | sbox => exact coreInv_setResult _ h
  | trunc => exact coreInv_setDigest_trunc _ _ h
  | _ => exact coreInv_setChain _ h

theorem coreInv_runWord {w : Word} (h : CoreInv s) (hr : runWord w s = .next t) : CoreInv t := by
  rcases runWord_cases hr with ⟨_, rfl⟩ | ⟨_, e, rfl⟩ | ⟨i, _, _, hc, rfl⟩
  · exact coreInv_complete h
  · exact coreInv_complete (coreInv_markError e _ h)
  · exact coreInv_complete (coreInv_effectOf h hc)

/-- The host latches a command with a step to go at least, and changes no command that is already running. -/
theorem hostMove_latency {op : HostOp} (h : ∀ p, s.pending = some p → 1 ≤ p.left) :
    ∀ p, (hostMove op s).pending = some p → 1 ≤ p.left := by
  rcases hostMove_cases op s with ⟨_, hm⟩ | ⟨_, hf⟩ | ⟨_, _, _, _, hm⟩ | ⟨_, v, _, _, _, hm⟩ | ⟨_, _, _, _, _, _, hm⟩ |
    ⟨_, _, _, _, _, _, hm⟩
  · rw [hm]; nofun
  · rwa [hf.pending]
  · simpa [hm] using h
  · simp [hm, latch]
  · simpa [hm] using h
  · simpa [hm] using h

theorem coreInv_hostMove (op : HostOp) (h : CoreInv s) : CoreInv (hostMove op s) := by
  by_cases hop : op = .hardReset
  · subst hop
    exact coreInv_resetCore s
  · exact coreInv_of_portFrame h (hostMove_frame hop s) (hostMove_latency h.latency)

/-- Time passing, or the host's next move being taken up, keeps the invariant. -/
theorem coreInv_tick {p : Option Pending} (ops : List HostOp) (h : CoreInv s) (hp : ∀ q, p = some q → 1 ≤ q.left) :
    CoreInv { s with pending := p, host := ops } :=
  ⟨h.context, h.error, h.finalized, h.digestTail, h.wholeBytes, hp⟩

/-- Whichever agent moves, the invariant stays. -/
theorem coreInv_step (h : CoreInv s) (hs : step s = .next t) : CoreInv t := by
  rcases step_inv hs with ⟨w, _, hr⟩ | ⟨p, _, rfl, _, hp⟩ | ⟨op, rest, p, _, rfl, _, hp⟩
  · exact coreInv_runWord h hr
  · exact coreInv_tick s.host h hp
  · exact coreInv_hostMove op (coreInv_tick rest h hp)

end Invariant

/-- Settles O57: the reset state has no context, no error, no digest and no message. -/
theorem invariantAtReset : Obligations.InvariantAtReset := coreInv_reset

/-- Settles O58: a completion step, a tick and a move of the host each keep the invariant. -/
theorem stepKeepsInvariant : Obligations.StepKeepsInvariant := fun _ _ => coreInv_step

end Sys2Proof.Machine

namespace Sys2Proof

open Sys2Proof.Safety Sys2Proof.Machine

/-! ## The round trip between commands and words (30_encoding.md R301, R306) -/

/-- The opcode map selects i for the word of i: the opcode is i's and each operand is read back from its field. -/
theorem commandAt_encode (i : Instr) : commandAt (encode i) = some i := by
  cases i <;> simp [commandAt, encode, opcodeOf]

theorem opField_encode (i : Instr) : opField (encode i) = opcodeOf i :=
  (opcodeOf_commandAt (commandAt_encode i)).symm

/-- A command is decoded from its own word (30_encoding.md R306). -/
theorem decode_encode (i : Instr) : decode (encode i) = .ok i := by
  have hm : encode i &&& formatMask (formatOf i) = packWord (opcodeOf i) 0 0 0 := by
    cases i <;> simp [encode, formatOf, formatMask_fields, packWord_and]
  simp [decode, commandAt_encode, opField_encode, hm]

/-- A selected command's operands are its word's fields, so packing them again gives the word with its must-be-zero
fields cleared. -/
theorem encode_of_commandAt {w : Word} {i : Instr} (h : commandAt w = some i) :
    encode i = match formatOf i with
      | .N => packWord (opField w) 0 0 0
      | .D => packWord (opField w) 0 (bField w) (cField w)
      | .L => packWord (opField w) 0 0 (cField w)
      | .BB | .TB => packWord (opField w) (aField w) (bField w) 0
      | .R => packWord (opField w) (aField w) 0 0 := by
  rw [← opcodeOf_commandAt h]
  unfold commandAt at h
  split at h <;> cases h <;> simp [encode, formatOf, d16Field_high, d16Field_low]

/-- A word whose must-be-zero fields are zero is the encoding of the command it selects (30_encoding.md R301). -/
theorem encode_eq_of_mask {w : Word} {i : Instr} (h : commandAt w = some i)
    (hm : w &&& formatMask (formatOf i) = packWord (opField w) 0 0 0) : encode i = w := by
  have hw := packWord_fields w
  have hfields : packWord (opField w) (aField w) (bField w) (cField w) &&& formatMask (formatOf i) =
      packWord (opField w) 0 0 0 := by rw [hw, hm]
  rw [formatMask_fields] at hfields
  rw [encode_of_commandAt h, eq_comm]
  refine hw.symm.trans ?_
  cases hf : formatOf i <;> simpa [hf, packWord_and, packWord_inj] using hfields

/-- The words that decode to a command are its encoding and no other (30_encoding.md R301). -/
theorem decode_eq_ok_iff {w : Word} {i : Instr} : decode w = .ok i ↔ w = encode i := by
  constructor
  · intro h
    rcases decode_cases w with ⟨_, hd⟩ | ⟨_, _, hd⟩ | ⟨_, hz, j, hj, _, hd⟩
    · simp [hd] at h
    · simp [hd] at h
    · obtain rfl : j = i := by simpa [hd] using h
      exact (encode_eq_of_mask hj ((mask_iff_zeroBits hj).2 hz)).symm
  · rintro rfl
    exact decode_encode i

/-! ## The check order of 60_exceptions.md R602, read off the word and off the command -/

/-- What `checkOrder` gives once the word is known to be a command's (60_exceptions.md R602). -/
theorem checkOrder_legal {w : Word} (s : State) (hop : opField w ∈ opcodes) (hz : w &&& zeroBits (opField w) = 0) :
    checkOrder w s =
      if opField w = 0x22 ∧ 3 < (aField w).toNat then 3
      else if opField w = 0x10 ∧
          ¬((d16Field w).toNat % 8 = 0 ∧ 8 ≤ (d16Field w).toNat ∧ (d16Field w).toNat ≤ 512) then 4
      else if opField w ∈ contextOpcodes ∧ s.cfg = false then 5
      else if (opField w = 0x11 ∨ opField w = 0x12) ∧ s.fin = true then 6
      else if opField w = 0x12 ∧ 8 * s.config.cols.toNat ≤ (cField w).toNat then 7
      else if opField w = 0x11 ∧ s.mlen.toNat + 64 * s.config.cols.toNat > 2 ^ 64 - 1 then 8
      else if opField w = 0x12 ∧ s.mlen.toNat + 8 * (cField w).toNat > 2 ^ 64 - 1 then 8
      else 0 :=
  (if_neg (not_not.2 hop)).trans (if_neg (not_not.2 hz))

/-- The number of the first check that fails, 0 when none does (60_exceptions.md R600, R602). -/
def firstCode (checks : List (Bool × ErrorCode)) : BitVec 4 := ((firstError checks).map errorNumber).getD 0

@[simp] theorem firstCode_nil : firstCode [] = 0 := rfl

@[simp] theorem firstCode_cons (failed : Bool) (e : ErrorCode) (rest : List (Bool × ErrorCode)) :
    firstCode ((failed, e) :: rest) = if failed then errorNumber e else firstCode rest := by
  cases failed <;> rfl

/-- The order of R602 on the word of i is the order of i's own checks. -/
theorem checkOrder_encode (i : Instr) (s : State) : checkOrder (encode i) s = firstCode (checksOf i s) := by
  rcases decode_cases (encode i) with ⟨_, hd⟩ | ⟨_, _, hd⟩ | ⟨hop, hz, _⟩
  · simp [decode_encode] at hd
  · simp [decode_encode] at hd
  rw [checkOrder_legal s hop hz, opField_encode]
  cases i with
  | init d =>
    by_cases hd : d.toNat % 8 = 0 ∧ 8 ≤ d.toNat ∧ d.toNat ≤ 512 <;>
      simp [checksOf, encode, opcodeOf, validDigestBits, contextOpcodes, errorNumber, hd]
  | sbox t x => simp [checksOf, encode, opcodeOf, validSboxIndex, contextOpcodes, errorNumber]
  | absorb =>
    have hbits : 8 * (8 * s.config.cols.toNat) = 64 * s.config.cols.toNat := by omega
    simp [checksOf, opcodeOf, contextOpcodes, needsContext, notFinalized, lengthFits, blockBytes, colsOf,
      errorNumber, hbits]
  | final n =>
    by_cases hn : 8 * s.config.cols.toNat ≤ n.toNat <;>
      simp [checksOf, encode, opcodeOf, contextOpcodes, needsContext, notFinalized, lengthFits, tailFits, blockBytes,
        colsOf, errorNumber, hn]
  | nop | sreset | clrerr | gfmul | gftab => simp [checksOf, opcodeOf, contextOpcodes]
  | _ => simp [checksOf, opcodeOf, contextOpcodes, needsContext, errorNumber]

/-- A word that is no command is ignored while ERR = 1 and rejected with its decode error otherwise. -/
theorem rejectWord_inv {e : DecodeError} {s t : State} (h : rejectWord e s = .next t) :
    (s.err = true ∧ t = complete s) ∨
    (s.err = false ∧ t = reject (decodeErrorCode e) (decodeErrorOp e) s) := by
  cases he : s.err <;> simp only [rejectWord, he] at h <;> cases h
  · exact .inr ⟨rfl, rfl⟩
  · exact .inl ⟨rfl, rfl⟩

/-- `runWord_cases` with the command's word and the recorded code: a rejection records the code of the check order. -/
theorem runWord_inv {w : Word} {s t : State} (h : runWord w s = .next t) :
    (s.err = true ∧ t = complete s) ∨
    (s.err = false ∧ ∃ e, errorNumber e = checkOrder w s ∧ t = reject e (opField w) s) ∨
    (∃ i, w = encode i ∧ (s.err = false ∨ i = .sreset ∨ i = .clrerr) ∧ firstError (checksOf i s) = none ∧
      t = complete (effectOf i s)) := by
  rcases decode_cases w with ⟨hop, hd⟩ | ⟨hop, hz, hd⟩ | ⟨_, _, i, _, _, hd⟩
  · rw [runWord_error hd] at h
    have hcode : (1 : BitVec 4) = checkOrder w s := (if_pos hop).symm
    exact (rejectWord_inv h).imp_right fun ⟨herr, ht⟩ => .inl ⟨herr, .illegalOpcode, hcode, ht⟩
  · rw [runWord_error hd] at h
    have hcode : (2 : BitVec 4) = checkOrder w s := ((if_neg (not_not.2 hop)).trans (if_pos hz)).symm
    exact (rejectWord_inv h).imp_right fun ⟨herr, ht⟩ => .inl ⟨herr, .reservedField, hcode, ht⟩
  · obtain rfl : w = encode i := decode_eq_ok_iff.1 hd
    rw [runWord_ok hd] at h
    rcases exec_cases h with h | ⟨herr, e, he, ht⟩ | h
    · exact .inl h
    · have hcode : errorNumber e = checkOrder (encode i) s := by simp [checkOrder_encode, firstCode, he]
      exact .inr (.inl ⟨herr, e, hcode, by rw [ht, opField_encode]⟩)
    · exact .inr (.inr ⟨i, rfl, h⟩)

end Sys2Proof

namespace Sys2Proof.Machine

open Sys2Proof.Safety

/-! ## What the effect of each command can write (10_state.md R107-R116) -/

section Writers
variable {i : Instr} {s t : State}

theorem effectOf_cfg_writers (h : (effectOf i s).cfg ≠ s.cfg) : i = .sreset ∨ ∃ d, i = .init d := by
  cases i <;> simp [effectOf, absorbEffect, finalEffect, clearErrors] at h ⊢

theorem effectOf_config_writers (h : (effectOf i s).config ≠ s.config) : i = .sreset ∨ ∃ d, i = .init d := by
  cases i <;> simp [effectOf, absorbEffect, finalEffect, clearErrors] at h ⊢

theorem effectOf_fin_writers (h : (effectOf i s).fin ≠ s.fin) :
    i = .sreset ∨ (∃ d, i = .init d) ∨ ∃ n, i = .final n := by
  cases i <;> simp [effectOf, absorbEffect, clearErrors] at h ⊢

theorem effectOf_result_writers (h : (effectOf i s).result ≠ s.result) :
    i = .sreset ∨ (∃ x y, i = .gfmul x y) ∨ (∃ x y, i = .gftab x y) ∨ ∃ n x, i = .sbox n x := by
  cases i <;> simp [effectOf, initEffect, absorbEffect, finalEffect, clearErrors] at h ⊢

theorem effectOf_mlen_writers (h : (effectOf i s).mlen ≠ s.mlen) :
    i = .sreset ∨ (∃ d, i = .init d) ∨ i = .absorb ∨ ∃ n, i = .final n := by
  cases i <;> simp [effectOf, clearErrors] at h ⊢

theorem effectOf_digest_writers (h : (effectOf i s).digest ≠ s.digest) :
    i = .sreset ∨ (∃ d, i = .init d) ∨ i = .trunc ∨ ∃ n, i = .final n := by
  cases i <;> simp [effectOf, absorbEffect, clearErrors] at h ⊢

theorem effectOf_state_writers (h : (effectOf i s).state ≠ s.state) :
    i ≠ .nop ∧ i ≠ .clrerr ∧ i ≠ .trunc ∧ (∀ x y, i ≠ .gfmul x y) ∧ (∀ x y, i ≠ .gftab x y) ∧ ∀ n x, i ≠ .sbox n x := by
  cases i <;> simp [effectOf, clearErrors] at h ⊢

/-- No command makes a move for the host or draws a free value (log 2, log 9). -/
theorem effectOf_ownFields (i : Instr) (s : State) :
    (effectOf i s).host = s.host ∧ (effectOf i s).trace = s.trace ∧ (effectOf i s).draws = s.draws := by
  cases i <;> simp [effectOf, initEffect, absorbEffect, finalEffect, clearErrors]

/-- A register that completing and the error action leave alone changes only by the command's effect. -/
theorem exec_writers {α : Type} (f : State → α) (hc : ∀ s, f (complete s) = f s)
    (hm : ∀ e op s, f (markError e op s) = f s) (h : exec i s = .next t) (hne : f t ≠ f s) :
    f (effectOf i s) ≠ f s := by
  rcases exec_cases h with ⟨_, rfl⟩ | ⟨_, e, _, rfl⟩ | ⟨_, _, rfl⟩
  · exact absurd (hc s) hne
  · exact absurd ((hc _).trans (hm e _ s)) hne
  · rwa [hc] at hne

end Writers

/-! ## Running one command from two states -/

/-- SRESET and CLRERR take their effect whatever ERR is (60_exceptions.md R603). -/
theorem exec_unblocked {i : Instr} (h : i = .sreset ∨ i = .clrerr) (s : State) :
    exec i s = .next (complete (effectOf i s)) := by
  rcases h with rfl | rfl <;> rfl

/-- A command run from two states with the same ERR and the same checks is ignored in both, rejected in both, or takes
its effect in both; so a relation that holds in each of the three cases holds of the two next states. -/
theorem exec_related {R : State → State → Prop} {i : Instr} {s u : State} (herr : u.err = s.err)
    (hchk : checksOf i u = checksOf i s) (hign : R (complete s) (complete u))
    (hrej : ∀ e, R (reject e (opcodeOf i) s) (reject e (opcodeOf i) u))
    (heff : firstError (checksOf i s) = none → R (complete (effectOf i s)) (complete (effectOf i u))) :
    ∃ t v, exec i s = .next t ∧ exec i u = .next v ∧ R t v := by
  by_cases hi : i = .sreset ∨ i = .clrerr
  · have hnone : firstError (checksOf i s) = none := by rcases hi with rfl | rfl <;> rfl
    exact ⟨_, _, exec_unblocked hi s, exec_unblocked hi u, heff hnone⟩
  obtain ⟨hsr, hclr⟩ := not_or.1 hi
  cases hs : s.err with
  | true => exact ⟨_, _, exec_ignored hsr hclr hs, exec_ignored hsr hclr (herr.trans hs), hign⟩
  | false =>
    cases hc : firstError (checksOf i s) with
    | some e => exact ⟨_, _, exec_rejected hs hc, exec_rejected (herr.trans hs) (hchk ▸ hc), hrej e⟩
    | none => exact ⟨_, _, exec_effect hs hc, exec_effect (herr.trans hs) (hchk ▸ hc), heff hc⟩

/-- Every command answers a next state. -/
theorem exec_next (i : Instr) (s : State) : ∃ t, exec i s = .next t := by
  obtain ⟨t, _, ht, _⟩ := exec_related (R := fun _ _ => True) (i := i) (s := s) rfl rfl trivial (fun _ => trivial)
    (fun _ => trivial)
  exact ⟨t, ht⟩

/-! ## Settling O42 and O43 -/

/-- Settles O42: being ignored, being rejected and taking effect each end in `complete`. -/
theorem everyCommandCompletes : Obligations.EveryCommandCompletes := by
  intro i s
  obtain ⟨t, ht⟩ := exec_next i s
  refine ⟨t, ht, ?_⟩
  rcases exec_cases ht with ⟨_, rfl⟩ | ⟨_, e, _, rfl⟩ | ⟨_, _, rfl⟩
  · exact ⟨rfl, rfl, rfl, rfl⟩
  · exact ⟨rfl, rfl, rfl, rfl⟩
  · exact ⟨rfl, effectOf_ownFields i s⟩

/-- Settles O43: one writers' list per register, of the commands' effects. -/
theorem registersChangeOnlyByTheirCommands : Obligations.RegistersChangeOnlyByTheirCommands := by
  intro i s t h
  refine ⟨fun hb => ?_, fun hc => ?_, fun hr => ?_, fun hm => ?_, fun hd => ?_, fun hs => ?_⟩
  · by_contra hi
    exact exec_writers (·.block) complete_block markError_block h hb (effectOf_block s hi)
  · exact effectOf_config_writers (exec_writers (·.config) complete_config markError_config h hc)
  · exact effectOf_result_writers (exec_writers (·.result) complete_result markError_result h hr)
  · exact effectOf_mlen_writers (exec_writers (·.mlen) complete_mlen markError_mlen h hm)
  · exact effectOf_digest_writers (exec_writers (·.digest) complete_digest markError_digest h hd)
  · exact effectOf_state_writers (exec_writers (·.state) complete_state markError_state h hs)

end Sys2Proof.Machine

namespace Sys2Proof.Machine

open Sys2Proof.Safety

/-! ## Which step it is: completion of a word, or a move of the host -/

section Agents
variable {s t : State}

theorem step_of_completes {w : Word} (h : Completes s w) : step s = runWord w s := by
  obtain ⟨p, hp, hl, rfl⟩ := h
  exact step_complete hp hl

/-- The completion step of a command's word is that command. -/
theorem step_of_completes_encode {i : Instr} (h : Completes s (encode i)) : step s = exec i s := by
  rw [step_of_completes h, runWord_ok (decode_encode i)]

/-- A host that may move makes its next move; only time has passed before it. -/
theorem step_of_hostMoves {op : HostOp} (h : HostMoves s op) :
    ∃ (p : Option Pending) (rest : List HostOp),
      step s = .next (hostMove op { s with pending := p, host := rest }) ∧ p.isSome = busy s := by
  obtain ⟨hleft, rest, hhost⟩ := h
  rcases step_cases s with ⟨hp, hs⟩ | ⟨p, hp, hl, hs⟩ | ⟨p, hp, hl, _⟩
  · refine ⟨none, rest, ?_, by simp [busy, hp]⟩
    rw [hs, hostTurn_cons hhost, ← hp]
    rfl
  · refine ⟨some { word := p.word, left := p.left - 1 }, rest, ?_, by simp [busy, hp]⟩
    rw [hs, busyTurn, hostTurn_cons (by simpa using hhost)]
    rfl
  · exact absurd (hleft p hp) (Nat.not_lt.2 hl)

/-- SRESET and a hard reset both end in the reset values (70_reset_and_hazards.md R700, R701). -/
theorem step_of_reset (h : Completes s 0x01000000 ∨ HostMoves s .hardReset) (hs : step s = .next t) :
    ∃ u, t = resetCore u := by
  rcases h with h | h
  · rw [step_of_completes_encode (i := .sreset) h] at hs
    cases hs
    exact ⟨s, rfl⟩
  · obtain ⟨p, rest, hs', _⟩ := step_of_hostMoves h
    rw [hs'] at hs
    cases hs
    exact ⟨_, rfl⟩

theorem step_of_clrerr (h : Completes s 0x02000000) (hs : step s = .next t) : t = complete (clearErrors s) := by
  rw [step_of_completes_encode (i := .clrerr) h] at hs
  cases hs
  rfl

/-- A successful INIT (43_hash_control.md R463). -/
theorem step_of_init {d : BitVec 16} (herr : s.err = false) (hd : validDigestBits d = true)
    (h : Completes s (encode (.init d))) (hs : step s = .next t) : t = complete (initEffect d s) := by
  rw [step_of_completes_encode h, exec_effect herr (by simp [checksOf, hd])] at hs
  cases hs
  rfl

/-- OVR after a move that is no hard reset: a write while BUSY = 1 sets it, no other touches it (10_state.md R110). -/
theorem hostMove_ovr {op : HostOp} (h : op ≠ .hardReset) (s : State) :
    (hostMove op s).ovr = s.ovr ∨ ((hostMove op s).ovr = true ∧ busy s = true ∧ ∃ a v, op = .write a v) := by
  rcases hostMove_cases op s with ⟨hr, _⟩ | ⟨_, hf⟩ | ⟨a, v, hop, hb, hm⟩ | ⟨_, _, _, _, _, hm⟩ |
    ⟨_, _, _, _, _, _, hm⟩ | ⟨_, _, _, _, _, _, hm⟩
  · exact absurd hr h
  · exact .inl hf.ovr
  · exact .inr ⟨by simp [hm], hb, a, v, hop⟩
  all_goals exact .inl (by simp [hm, latch])

/-- What a step does to the control registers: it leaves them (a word that is ignored, time passing, or a move of the
host), with OVR set at most; or a word is rejected; or a command takes its effect; or the host makes a hard reset. -/
theorem step_control_cases (hs : step s = .next t) :
    (PortFrame s t ∧ (t.ovr = s.ovr ∨ (t.ovr = true ∧ busy s = true ∧ ∃ a v, HostMoves s (.write a v)))) ∨
    (∃ w e, Completes s w ∧ s.err = false ∧ errorNumber e = checkOrder w s ∧ t = reject e (opField w) s) ∨
    (∃ i, Completes s (encode i) ∧ (s.err = false ∨ i = .sreset ∨ i = .clrerr) ∧ firstError (checksOf i s) = none ∧
      t = complete (effectOf i s)) ∨
    HostMoves s .hardReset := by
  rcases step_inv hs with ⟨w, hw, hr⟩ | ⟨p, _, rfl, _, _⟩ | ⟨op, rest, p, hop, rfl, hp, _⟩
  · rcases runWord_inv hr with ⟨_, rfl⟩ | ⟨herr, e, he, ht⟩ | ⟨i, rfl, hi⟩
    · exact .inl ⟨⟨rfl, rfl, rfl, rfl, rfl, rfl, rfl, rfl, rfl⟩, .inl rfl⟩
    · exact .inr (.inl ⟨w, e, hw, herr, he, ht⟩)
    · exact .inr (.inr (.inl ⟨i, hw, hi⟩))
  · exact .inl ⟨⟨rfl, rfl, rfl, rfl, rfl, rfl, rfl, rfl, rfl⟩, .inl rfl⟩
  · by_cases hreset : op = .hardReset
    · exact .inr (.inr (.inr (hreset ▸ hop)))
    · have hf := hostMove_frame hreset { s with pending := p, host := rest }
      refine .inl ⟨⟨hf.cfg, hf.fin, hf.err, hf.errcode, hf.errop, hf.config, hf.result, hf.mlen, hf.digest⟩, ?_⟩
      refine (hostMove_ovr hreset _).imp_right fun ⟨hovr, hb, a, v, hw⟩ => ⟨hovr, hp.symm.trans hb, a, v, hw ▸ hop⟩

end Agents

end Sys2Proof.Machine

namespace Sys2Proof.Machine

open Sys2Proof.Safety

/-! ## CFG and CONFIG (10_state.md R107) -/

section Context
variable {s t : State}

/-- The checks of the fifteen commands of R107 begin with the context's. -/
theorem checksOf_needsContext {i : Instr} (h : opcodeOf i ∈ contextOpcodes) (s : State) :
    ∃ rest, checksOf i s = needsContext s :: rest := by
  cases i <;> simp [opcodeOf, contextOpcodes] at h <;> exact ⟨_, rfl⟩

/-- A command that changed neither CFG nor CONFIG, SRESET, or a successful INIT: there is no fourth case. -/
theorem effectOf_context_cases {i : Instr} (hi : s.err = false ∨ i = .sreset ∨ i = .clrerr)
    (hc : firstError (checksOf i s) = none) :
    i = .sreset ∨ (s.err = false ∧ ∃ d, validDigestBits d = true ∧ i = .init d) ∨
      ((effectOf i s).cfg = s.cfg ∧ (effectOf i s).config = s.config) := by
  by_cases hw : i = .sreset ∨ ∃ d, i = .init d
  · rcases hw with hr | ⟨d, rfl⟩
    · exact .inl hr
    · exact .inr (.inl ⟨by simpa using hi, d, by simpa [checksOf] using hc, rfl⟩)
  · have hcfg : (effectOf i s).cfg = s.cfg := by_contra fun h => hw (effectOf_cfg_writers h)
    have hconfig : (effectOf i s).config = s.config := by_contra fun h => hw (effectOf_config_writers h)
    exact .inr (.inr ⟨hcfg, hconfig⟩)

/-- What a step can do to CFG and CONFIG (10_state.md R107). -/
theorem step_context_cases (hs : step s = .next t) :
    (t.cfg = s.cfg ∧ t.config = s.config) ∨
    (s.err = false ∧ t.cfg = true ∧ ∃ d, validDigestBits d = true ∧ Completes s (encode (.init d))) ∨
    (t.cfg = false ∧ t.config = State.reset.config ∧ (Completes s 0x01000000 ∨ HostMoves s .hardReset)) := by
  rcases step_control_cases hs with ⟨hf, _⟩ | ⟨w, e, _, _, _, rfl⟩ | ⟨i, hw, hi, hc, ht⟩ | hreset
  · exact .inl ⟨hf.cfg, hf.config⟩
  · exact .inl ⟨rfl, rfl⟩
  · rcases effectOf_context_cases hi hc with rfl | ⟨herr, d, hd, rfl⟩ | ⟨hcfg, hconfig⟩
    · exact .inr (.inr ⟨by rw [ht]; rfl, by rw [ht]; rfl, .inl hw⟩)
    · exact .inr (.inl ⟨herr, by rw [ht]; rfl, d, hd, hw⟩)
    · exact .inl ⟨by rw [ht]; exact hcfg, by rw [ht]; exact hconfig⟩
  · obtain ⟨u, rfl⟩ := step_of_reset (.inr hreset) hs
    exact .inr (.inr ⟨rfl, rfl, .inr hreset⟩)

end Context

/-- Settles O38: CFG and CONFIG change together, by a successful INIT, by SRESET and by a hard reset. -/
theorem contextRule : Obligations.ContextRule := by
  refine ⟨fun d s herr hd => ⟨_, exec_effect herr (by simp [checksOf, hd]), rfl⟩, fun s t hs hcfg => ⟨fun ht => ?_, ?_⟩,
    fun s t hs hcfg => ⟨fun ht => ?_, fun hr => ?_⟩, fun s t hs hzero ht => ?_, fun i s hop herr hcfg => ?_⟩
  · rcases step_context_cases hs with ⟨h, _⟩ | ⟨herr, _, hinit⟩ | ⟨h, _⟩
    · simp [h, hcfg] at ht
    · exact ⟨herr, hinit⟩
    · simp [h] at ht
  · rintro ⟨herr, d, hd, hw⟩
    rw [step_of_init herr hd hw hs]
    rfl
  · rcases step_context_cases hs with ⟨h, _⟩ | ⟨_, h, _⟩ | ⟨_, _, hr⟩
    · simp [h, hcfg] at ht
    · simp [h] at ht
    · exact hr
  · obtain ⟨u, rfl⟩ := step_of_reset hr hs
    rfl
  · rcases step_context_cases hs with ⟨h, hconfig⟩ | ⟨_, h, _⟩ | ⟨_, hconfig, _⟩
    · rw [hconfig]
      exact hzero (h.symm.trans ht)
    · simp [h] at ht
    · rw [hconfig]
      rfl
  · obtain ⟨rest, hrest⟩ := checksOf_needsContext hop s
    exact exec_rejected (e := .notConfigured) herr (by simp [hrest, needsContext, hcfg])

/-! ## FIN (10_state.md R108) -/

section Finalized
variable {s t : State}

/-- The checks pass exactly when each of them does. -/
theorem firstError_cons_eq_none {failed : Bool} {e : ErrorCode} {rest : List (Bool × ErrorCode)} :
    firstError ((failed, e) :: rest) = none ↔ failed = false ∧ firstError rest = none := by
  cases failed <;> simp

/-- FINAL n passes its checks exactly in a context, before FIN = 1, with a tail shorter than a block and a length that
fits (60_exceptions.md R602). -/
theorem final_checks_iff {n : Byte} (s : State) :
    firstError (checksOf (.final n) s) = none ↔
      s.cfg = true ∧ s.fin = false ∧ n.toNat < 8 * colsOf s ∧ s.mlen.toNat + 8 * n.toNat ≤ 2 ^ 64 - 1 := by
  simp only [checksOf, needsContext, notFinalized, tailFits, lengthFits, firstError_cons_eq_none, firstError_nil,
    decide_eq_false_iff_not, Nat.not_lt, Nat.not_le, Bool.not_eq_eq_eq_not, Bool.not_false, and_true]
  rfl

/-- A command that left FIN alone, SRESET, a successful INIT, or a successful FINAL: there is no fifth case. -/
theorem effectOf_fin_cases {i : Instr} (hi : s.err = false ∨ i = .sreset ∨ i = .clrerr)
    (hc : firstError (checksOf i s) = none) :
    i = .sreset ∨ (s.err = false ∧ ∃ d, validDigestBits d = true ∧ i = .init d) ∨
      (s.err = false ∧ ∃ n, firstError (checksOf (.final n) s) = none ∧ i = .final n) ∨
      (effectOf i s).fin = s.fin := by
  by_cases hfin : (effectOf i s).fin = s.fin
  · exact .inr (.inr (.inr hfin))
  rcases effectOf_fin_writers hfin with hr | ⟨d, rfl⟩ | ⟨n, rfl⟩
  · exact .inl hr
  · exact .inr (.inl ⟨by simpa using hi, d, by simpa [checksOf] using hc, rfl⟩)
  · exact .inr (.inr (.inl ⟨by simpa using hi, n, hc, rfl⟩))

/-- What a step can do to FIN (10_state.md R108). -/
theorem step_fin_cases (hs : step s = .next t) :
    t.fin = s.fin ∨
    (t.fin = true ∧ s.err = false ∧ ∃ n, firstError (checksOf (.final n) s) = none ∧ Completes s (encode (.final n))) ∨
    (t.fin = false ∧ ((s.err = false ∧ ∃ d, validDigestBits d = true ∧ Completes s (encode (.init d))) ∨
      Completes s 0x01000000 ∨ HostMoves s .hardReset)) := by
  rcases step_control_cases hs with ⟨hf, _⟩ | ⟨w, e, _, _, _, rfl⟩ | ⟨i, hw, hi, hc, ht⟩ | hreset
  · exact .inl hf.fin
  · exact .inl rfl
  · rcases effectOf_fin_cases hi hc with rfl | ⟨herr, d, hd, rfl⟩ | ⟨herr, n, hn, rfl⟩ | hfin
    · exact .inr (.inr ⟨by rw [ht]; rfl, .inr (.inl hw)⟩)
    · exact .inr (.inr ⟨by rw [ht]; rfl, .inl ⟨herr, d, hd, hw⟩⟩)
    · exact .inr (.inl ⟨by rw [ht]; rfl, herr, n, hn, hw⟩)
    · exact .inl (by rw [ht]; exact hfin)
  · obtain ⟨u, rfl⟩ := step_of_reset (.inr hreset) hs
    exact .inr (.inr ⟨rfl, .inr (.inr hreset)⟩)

/-- Only ABSORB and FINAL check FIN (60_exceptions.md R602). -/
theorem checksOf_fin {i : Instr} (ha : i ≠ .absorb) (hf : ∀ n, i ≠ .final n) (s : State) (b : Bool) :
    checksOf i { s with fin := b } = checksOf i s := by
  cases i with
  | absorb => exact absurd rfl ha
  | final n => exact absurd rfl (hf n)
  | _ => rfl

/-- No effect reads FIN. -/
theorem effectOf_fin_unread (i : Instr) (s : State) (b : Bool) :
    effectOf i { s with fin := b } = { effectOf i s with fin := (effectOf i { s with fin := b }).fin } := by
  cases i <;> rfl

end Finalized

/-- Settles O39: FIN is set by a FINAL whose checks pass, and is an input of no command's checks but ABSORB's and
FINAL's, and of no command's effect. -/
theorem finalizedRule : Obligations.FinalizedRule := by
  refine ⟨fun s t hs hfin => ⟨fun ht => ?_, ?_⟩, fun s t hs hfin => ⟨fun ht => ?_, ?_⟩, fun s herr hcfg hfin => ?_,
    fun i s b ha hf => ?_⟩
  · rcases step_fin_cases hs with h | ⟨_, herr, n, hn, hw⟩ | ⟨h, _⟩
    · simp [h, hfin] at ht
    · obtain ⟨hcfg, _, htail, hlen⟩ := (final_checks_iff s).1 hn
      exact ⟨herr, hcfg, n, hw, htail, hlen⟩
    · simp [h] at ht
  · rintro ⟨herr, hcfg, n, hw, htail, hlen⟩
    rw [step_of_completes_encode hw, exec_effect herr ((final_checks_iff s).2 ⟨hcfg, hfin, htail, hlen⟩)] at hs
    cases hs
    rfl
  · rcases step_fin_cases hs with h | ⟨h, _⟩ | ⟨_, h⟩
    · simp [h, hfin] at ht
    · simp [h] at ht
    · exact h
  · rintro (⟨herr, d, hd, hw⟩ | hr)
    · rw [step_of_init herr hd hw hs]
      rfl
    · obtain ⟨u, rfl⟩ := step_of_reset hr hs
      rfl
  · have hrejected {i : Instr} {rest : List (Bool × ErrorCode)}
        (hrest : checksOf i s = needsContext s :: notFinalized s :: rest) :
        exec i s = .next (reject .alreadyFinalized (opcodeOf i) s) :=
      exec_rejected herr (by simp [hrest, needsContext, notFinalized, hcfg, hfin])
    exact ⟨hrejected rfl, fun n => hrejected rfl⟩
  · exact exec_related (R := fun t u => u = { t with fin := u.fin }) rfl (checksOf_fin ha hf s b) rfl (fun _ => rfl)
      fun _ => congrArg complete (effectOf_fin_unread i s b)

end Sys2Proof.Machine

namespace Sys2Proof.Machine

open Sys2Proof.Safety

/-! ## The error fields and OVR (10_state.md R109, R110) -/

/-- No check of a command reads OVR. -/
theorem checksOf_ovr (i : Instr) (s : State) (b : Bool) : checksOf i { s with ovr := b } = checksOf i s := by
  cases i <;> rfl

/-- No effect reads OVR. -/
theorem effectOf_ovr_unread (i : Instr) (s : State) (b : Bool) :
    effectOf i { s with ovr := b } = { effectOf i s with ovr := (effectOf i { s with ovr := b }).ovr } := by
  cases i <;> rfl

/-- SRESET, CLRERR, or an effect that leaves the error fields and OVR alone. -/
theorem effectOf_errorFields_cases (i : Instr) (s : State) :
    i = .sreset ∨ i = .clrerr ∨ ((effectOf i s).err = s.err ∧ (effectOf i s).errcode = s.errcode ∧
      (effectOf i s).errop = s.errop ∧ (effectOf i s).ovr = s.ovr) := by
  by_cases hsr : i = .sreset
  · exact .inl hsr
  by_cases hclr : i = .clrerr
  · exact .inr (.inl hclr)
  exact .inr (.inr (effectOf_errorFields s hsr hclr))

/-- Settles O40: the code a rejection records is the check order's, and no effect but SRESET's and CLRERR's touches the
three fields. -/
theorem errorFieldsWriters : Obligations.ErrorFieldsWriters := by
  refine fun s t hs => ⟨?_, ?_⟩
  · rcases step_control_cases hs with ⟨hf, _⟩ | ⟨w, e, hw, herr, he, rfl⟩ | ⟨i, hw, _, _, rfl⟩ | hreset
    · exact .inl ⟨hf.err, hf.errcode, hf.errop⟩
    · exact .inr (.inl ⟨herr, rfl, w, hw, he, rfl⟩)
    · rcases effectOf_errorFields_cases i s with rfl | rfl | ⟨herr, hcode, hop, _⟩
      · exact .inr (.inr (.inr (.inl hw)))
      · exact .inr (.inr (.inl hw))
      · exact .inl ⟨herr, hcode, hop⟩
    · exact .inr (.inr (.inr (.inr hreset)))
  · rintro (hclr | hreset)
    · rw [step_of_clrerr hclr hs]
      exact ⟨rfl, rfl, rfl⟩
    · obtain ⟨u, rfl⟩ := step_of_reset hreset hs
      exact ⟨rfl, rfl, rfl⟩

/-- What a step can do to OVR (10_state.md R110). -/
theorem step_ovr_cases {s t : State} (hs : step s = .next t) :
    t.ovr = s.ovr ∨
    (t.ovr = true ∧ busy s = true ∧ ∃ a v, HostMoves s (.write a v)) ∨
    (t.ovr = false ∧ (Completes s 0x02000000 ∨ Completes s 0x01000000 ∨ HostMoves s .hardReset)) := by
  rcases step_control_cases hs with ⟨_, hovr⟩ | ⟨w, e, _, _, _, rfl⟩ | ⟨i, hw, _, _, rfl⟩ | hreset
  · exact hovr.imp_right .inl
  · exact .inl rfl
  · rcases effectOf_errorFields_cases i s with rfl | rfl | ⟨_, _, _, hovr⟩
    · exact .inr (.inr ⟨rfl, .inr (.inl hw)⟩)
    · exact .inr (.inr ⟨rfl, .inl hw⟩)
    · exact .inl hovr
  · obtain ⟨u, rfl⟩ := step_of_reset (.inr hreset) hs
    exact .inr (.inr ⟨rfl, .inr (.inr hreset)⟩)

/-- Settles O41: only a discarded write sets OVR, and no command's checks or effect read it. -/
theorem overrunRule : Obligations.OverrunRule := by
  refine ⟨fun s a v hw hb => ?_, fun s t hs hovr ht => ?_, fun s t hs hovr => ⟨fun ht => ?_, ?_⟩, fun i s b => ?_⟩
  · obtain ⟨p, rest, hs, hp⟩ := step_of_hostMoves hw
    refine ⟨_, hs, ?_⟩
    have hdiscard : memWrite a v { s with pending := p, host := rest } =
        (.okay, setOvr { s with pending := p, host := rest }) := if_pos (hp.trans hb)
    simp [hostMove, hostWrite, hdiscard]
  · rcases step_ovr_cases hs with h | ⟨_, hset⟩ | ⟨h, _⟩
    · simp [h, hovr] at ht
    · exact hset
    · simp [h] at ht
  · rcases step_ovr_cases hs with h | ⟨h, _⟩ | ⟨_, h⟩
    · simp [h, hovr] at ht
    · simp [h] at ht
    · exact h
  · rintro (hclr | hreset)
    · rw [step_of_clrerr hclr hs]
      rfl
    · obtain ⟨u, rfl⟩ := step_of_reset hreset hs
      rfl
  · exact exec_related (R := fun t u => u = { t with ovr := u.ovr }) rfl (checksOf_ovr i s b) rfl (fun _ => rfl)
      fun _ => congrArg complete (effectOf_ovr_unread i s b)

/-! ## The host's writes (10_state.md R102, R104; 20_memory.md R203) -/

/-- BLOCK and STATE after a move that is no hard reset: only an accepted write to a word of the array changes it. -/
theorem hostMove_arrays {op : HostOp} (h : op ≠ .hardReset) (s : State) :
    ((hostMove op s).block ≠ s.block → busy s = false ∧ ∃ a v q, op = .write a v ∧ regAt a = some (.block q)) ∧
    ((hostMove op s).state ≠ s.state → busy s = false ∧ ∃ a v q, op = .write a v ∧ regAt a = some (.state q)) := by
  rcases hostMove_cases op s with ⟨hr, _⟩ | ⟨_, hf⟩ | ⟨_, _, _, _, hm⟩ | ⟨_, _, _, _, _, hm⟩ |
    ⟨a, v, q, hop, hb, hq, hm⟩ | ⟨a, v, q, hop, hb, hq, hm⟩
  · exact absurd hr h
  · exact ⟨fun hn => absurd hf.block hn, fun hn => absurd hf.state hn⟩
  · simp [hm]
  · simp [hm, latch]
  · exact ⟨fun _ => ⟨hb, a, v, q, hop, hq⟩, fun hn => absurd (by simp [hm]) hn⟩
  · exact ⟨fun hn => absurd (by simp [hm]) hn, fun _ => ⟨hb, a, v, q, hop, hq⟩⟩

/-- Settles O44: a move but a hard reset keeps the port's frame, and stores only into the array it addresses. -/
theorem hostWritesNoControlRegister : Obligations.HostWritesNoControlRegister := by
  intro s op hop hreset
  obtain ⟨p, rest, hs, hp⟩ := step_of_hostMoves hop
  have hf := hostMove_frame hreset { s with pending := p, host := rest }
  obtain ⟨hblock, hstate⟩ := hostMove_arrays hreset { s with pending := p, host := rest }
  exact ⟨_, hs, hf.cfg, hf.fin, hf.err, hf.errcode, hf.errop, hf.config, hf.result, hf.mlen, hf.digest,
    fun hn => (hblock hn).imp_left hp.symm.trans, fun hn => (hstate hn).imp_left hp.symm.trans⟩

/-- With no command latched a step is the host's next move (10_state.md R100). -/
theorem step_idle_cons {s : State} {op : HostOp} {rest : List HostOp} (hp : s.pending = none)
    (hh : s.host = op :: rest) : step s = .next (hostMove op (setHost rest s)) := by
  rw [step_idle hp, hostTurn_cons hh]

/-- Settles O51: the write's draw is one step more than the extra latency. -/
theorem cmdWriteLatches : Obligations.CmdWriteLatches := by
  intro s w rest hp hh
  have hb : busy (setHost rest s) = false := by simp [busy, hp]
  have hm : memWrite 0x004 w (setHost rest s) = (.okay, latch w (setHost rest s)) := by
    rw [memWrite, if_neg (by simp [hb])]
    rfl
  refine ⟨_, Config.extraLatency w s.draws + 1, step_idle_cons hp hh, Nat.le_add_left 1 _, ?_, ?_⟩ <;>
    simp only [hostMove, hostWrite, hm] <;> rfl

/-- The word numbers of BLOCK and STATE run from 0 to 31 (10_state.md R101). -/
theorem regAt_word_lt {a : Addr} {q : Nat} (h : regAt a = some (.block q) ∨ regAt a = some (.state q)) : q < 32 := by
  rcases h with h | h <;> simp [regAt, ite_eq_iff] at h <;> omega

/-- The four bytes of a stored word (20_memory.md R203). -/
theorem byteAt_storeWord_word (X : Buf) {q k : Nat} (v : Word) (hq : q < 32) (hk : k < 4) :
    byteAt (storeWord X q v) (4 * q + k) = v.extractLsb' (8 * k) 8 := by
  have hdiv : (4 * q + k) / 4 = q := by omega
  have hmod : (4 * q + k) % 4 = k := by omega
  rw [byteAt_storeWord X q v (by omega), if_pos hdiv, hmod]

/-- The bytes a word write keeps. -/
theorem byteAt_storeWord_other (X : Buf) {q k : Nat} (v : Word) (hk : k < 128) (hq : k / 4 ≠ q) :
    byteAt (storeWord X q v) k = byteAt X k := by
  rw [byteAt_storeWord X q v hk, if_neg hq]

/-- A stored word reads back: its four bytes are the word's four fields. -/
theorem arrayWord_storeWord (X : Buf) {q : Nat} (v : Word) (hq : q < 32) : arrayWord (storeWord X q v) q = v := by
  have hbyte {k : Nat} (hk : k < 4) := byteAt_storeWord_word X v hq hk
  rw [arrayWord, hbyte (k := 3) (by decide), hbyte (k := 2) (by decide), hbyte (k := 1) (by decide)]
  rw [show 4 * q = 4 * q + 0 from rfl, hbyte (k := 0) (by decide)]
  exact packWord_fields v

/-- A read of a mapped register while idle answers its value and changes nothing else (20_memory.md R205). -/
theorem step_idle_read {s : State} {a : Addr} {rest : List HostOp} {r : HostReg} (hp : s.pending = none)
    (hh : s.host = .read a :: rest) (hr : regAt a = some r) :
    step s = .next { s with host := rest, trace := .ofRead .okay (viewReg s r) :: s.trace } := by
  have hview : viewReg (setHost rest s) r = viewReg s r := by cases r <;> rfl
  have hm : memRead a (setHost rest s) = (.okay, viewReg s r, setHost rest s) := by
    simp [memRead, hr, busy, hp, hview]
  rw [step_idle_cons hp hh]
  simp only [hostMove, hostRead, hm]
  rfl

section IdleWrite
variable {s : State} {a : Addr} {v : Word} {rest : List HostOp} (hp : s.pending = none)
  (hh : s.host = .write a v :: rest)
include hp hh

/-- A write while idle to a word of BLOCK stores it and changes nothing else (20_memory.md R202). -/
theorem step_idle_write_block {q : Nat} (hq : regAt a = some (.block q)) :
    step s = .next { s with block := storeWord s.block q v, host := rest, trace := .ofWrite .okay :: s.trace } := by
  rw [step_idle_cons hp hh]
  simp [hostMove, hostWrite, memWrite, busy, hp, hq, writeReg, record, setBlock, setHost]

/-- A write while idle to a word of STATE stores it and changes nothing else (20_memory.md R202). -/
theorem step_idle_write_state {q : Nat} (hq : regAt a = some (.state q)) :
    step s = .next { s with state := storeWord s.state q v, host := rest, trace := .ofWrite .okay :: s.trace } := by
  rw [step_idle_cons hp hh]
  simp [hostMove, hostWrite, memWrite, busy, hp, hq, writeReg, record, setChain, setHost]

end IdleWrite

/-- Settles O48: the store is `storeWord`, and reading its word back gives the word. -/
theorem arrayWriteReadsBack : Obligations.ArrayWriteReadsBack := by
  refine fun s a v rest hp hh => ⟨fun q hq => ?_, fun q hq => ?_⟩
  · have hlt : q < 32 := regAt_word_lt (.inl hq)
    refine ⟨_, _, step_idle_write_block hp hh hq, rfl, fun k hk => byteAt_storeWord_word _ v hlt hk,
      fun k hk hne => byteAt_storeWord_other _ v hk hne, step_idle_read hp rfl hq, ?_⟩
    simp [viewReg, arrayWord_storeWord _ v hlt]
  · have hlt : q < 32 := regAt_word_lt (.inr hq)
    refine ⟨_, _, step_idle_write_state hp hh hq, rfl, fun k hk => byteAt_storeWord_word _ v hlt hk,
      fun k hk hne => byteAt_storeWord_other _ v hk hne, step_idle_read hp rfl hq, ?_⟩
    simp [viewReg, arrayWord_storeWord _ v hlt]

/-! ## STATUS and CONFIG as numbers (10_state.md R105, R111) -/

/-- Concatenation is positional: the high word counts for 2^n of the low one's. -/
theorem toNat_append_add {m n : Nat} (x : BitVec m) (y : BitVec n) :
    (x ++ y).toNat = x.toNat * 2 ^ n + y.toNat := by
  rw [BitVec.toNat_append, ← Nat.shiftLeft_add_eq_or_of_lt y.isLt, Nat.shiftLeft_eq]

/-- Settles O45: the two words are concatenations of their fields and of zeros. -/
theorem statusAndConfigLayout : Obligations.StatusAndConfigLayout := by
  intro s
  constructor
  · simp only [statusWord, toNat_append_add, BitVec.toNat_ofBool, BitVec.ofNat_eq_ofNat, BitVec.toNat_ofNat]
    omega
  · simp only [configWord, toNat_append_add, BitVec.ofNat_eq_ofNat, BitVec.toNat_ofNat]
    omega

end Sys2Proof.Machine

namespace Sys2Proof.Machine

open Sys2Proof.Safety

/-! ## Non-interference of the bytes at index 8c and above (10_state.md R114, R115; 00_scope.md R10) -/

theorem agreeBelow_refl (k : Nat) (X : Buf) : AgreeBelow k X X := fun _ _ _ => rfl

/-- What `mapCells` leaves inside the state is its function's values, whatever stood there before. -/
theorem agreeBelow_mapCells {c : Nat} {X Y : Buf} {f g : Nat → Nat → Byte}
    (h : ∀ j, j < c → ∀ i, i < 8 → f j i = g j i) : AgreeBelow (8 * c) (mapCells c X f) (mapCells c Y g) := by
  intro k hk hk128
  rw [byteAt_mapCells _ _ _ hk128, byteAt_mapCells _ _ _ hk128, if_pos hk, if_pos hk]
  exact h _ (by omega) _ (Nat.mod_lt _ (by decide))

theorem xorSum8_congr {f g : Nat → Byte} (h : ∀ b, b < 8 → f b = g b) : xorSum8 f = xorSum8 g := by
  simp [xorSum8, h]

theorem le64_congr {f g : Nat → Byte} (h : ∀ b, b < 8 → f b = g b) : le64 f = le64 g := by
  simp [le64, h]

/-- ShiftRows takes a byte from a column of the state (41_round_layers.md R413). -/
theorem shiftSource_lt {c j : Nat} (hj : j < c) (i : Nat) : shiftSource c j i < c := by
  have hpos : (0 : Int) < c := by omega
  have hnonneg := Int.emod_nonneg ((j : Int) - (shiftAmount i c : Int)) hpos.ne'
  have hlt := Int.emod_lt_of_pos ((j : Int) - (shiftAmount i c : Int)) hpos
  unfold shiftSource
  omega

section Layers
variable {c : Nat} {X Y : Buf} (hc : c ≤ 16) (h : AgreeBelow (8 * c) X Y)
include hc h

theorem cell_agree {j i : Nat} (hj : j < c) (hi : i < 8) : cell X j i = cell Y j i := h _ (by omega) (by omega)

theorem subBytes_agree : AgreeBelow (8 * c) (subBytes c X) (subBytes c Y) :=
  agreeBelow_mapCells fun j hj i hi => by rw [cell_agree hc h hj hi]

theorem shiftRows_agree : AgreeBelow (8 * c) (shiftRows c X) (shiftRows c Y) :=
  agreeBelow_mapCells fun _ hj i hi => cell_agree hc h (shiftSource_lt hj i) hi

theorem mixColumns_agree : AgreeBelow (8 * c) (mixColumns c X) (mixColumns c Y) :=
  agreeBelow_mapCells fun _ hj _ _ => xorSum8_congr fun b hb => by rw [cell_agree hc h hj hb]

theorem addRcP_agree (r : Byte) : AgreeBelow (8 * c) (addRcP c r X) (addRcP c r Y) :=
  agreeBelow_mapCells fun j hj i hi => by rw [cell_agree hc h hj hi, cell_agree hc h hj (i := 0) (by decide)]

theorem addRcQ_agree (r : Byte) : AgreeBelow (8 * c) (addRcQ c r X) (addRcQ c r Y) :=
  agreeBelow_mapCells fun j hj i _ => by
    rw [columnWord, columnWord, le64_congr fun b hb => cell_agree hc h hj hb]

theorem roundP_agree (r : Byte) : AgreeBelow (8 * c) (roundP c r X) (roundP c r Y) :=
  mixColumns_agree hc (shiftRows_agree hc (subBytes_agree hc (addRcP_agree hc h r)))

theorem roundQ_agree (r : Byte) : AgreeBelow (8 * c) (roundQ c r X) (roundQ c r Y) :=
  mixColumns_agree hc (shiftRows_agree hc (subBytes_agree hc (addRcQ_agree hc h r)))

omit hc in
/-- Rounds of any kind, one after the other. -/
theorem foldl_agree (f : Buf → Nat → Buf)
    (hf : ∀ (X Y : Buf) r, AgreeBelow (8 * c) X Y → AgreeBelow (8 * c) (f X r) (f Y r)) (l : List Nat) :
    AgreeBelow (8 * c) (l.foldl f X) (l.foldl f Y) := by
  induction l generalizing X Y with
  | nil => exact h
  | cons r l ih => exact ih (hf X Y r h)

theorem permP_agree (n : Nat) : AgreeBelow (8 * c) (permP n c X) (permP n c Y) :=
  foldl_agree h (fun Y r => roundP c (BitVec.ofNat 8 r) Y) (fun _ _ _ h' => roundP_agree hc h' _) (List.range n)

theorem permQ_agree (n : Nat) : AgreeBelow (8 * c) (permQ n c X) (permQ n c Y) :=
  foldl_agree h (fun Y r => roundQ c (BitVec.ofNat 8 r) Y) (fun _ _ _ h' => roundQ_agree hc h' _) (List.range n)

theorem xorCells_agree {M N : Buf} (hM : AgreeBelow (8 * c) M N) :
    AgreeBelow (8 * c) (xorCells c X M) (xorCells c Y N) :=
  agreeBelow_mapCells fun _ hj _ hi => by rw [cell_agree hc h hj hi, cell_agree hc hM hj hi]

theorem compress_agree (n : Nat) {M N : Buf} (hM : AgreeBelow (8 * c) M N) :
    AgreeBelow (8 * c) (compress n c X M) (compress n c Y N) :=
  xorCells_agree hc (xorCells_agree hc (permP_agree hc (xorCells_agree hc h hM) n) (permQ_agree hc hM n)) h

theorem compressAll_agree (n B : Nat) (U : List Byte) :
    AgreeBelow (8 * c) (compressAll n c B U X) (compressAll n c B U Y) :=
  foldl_agree h (fun Y q => compress n c Y (blockOf U B q))
    (fun _ _ _ h' => compress_agree hc h' n (agreeBelow_refl _ _)) (List.range (U.length / B))

theorem outputTransform_agree (n : Nat) : AgreeBelow (8 * c) (outputTransform n c X) (outputTransform n c Y) :=
  xorCells_agree hc (permP_agree hc h n) h

/-- The truncation reads the last d of the 8c bytes (42_permutations_compression.md R449). -/
theorem truncDigest_agree {d : Nat} (hd : d ≤ 8 * c) : truncDigest c d X = truncDigest c d Y := by
  unfold truncDigest
  congr 1
  funext k
  split
  · rw [trailingByte_eq hd, trailingByte_eq hd]
    exact h _ (by omega) (by omega)
  · rfl

theorem firstBytes_agree {n : Nat} (hn : n ≤ 8 * c) : firstBytes X n = firstBytes Y n := by
  refine List.map_congr_left fun k hk => ?_
  have hk' := List.mem_range.1 hk
  exact h k (by omega) (by omega)

end Layers

/-- A legal context has at most 16 columns, and its digest fits the state (00_scope.md R6, 10_state.md R111). -/
theorem legalContext_bounds {s : State} (h : LegalContext s) : colsOf s ≤ 16 ∧ digestBytes s ≤ 8 * colsOf s := by
  unfold colsOf digestBytes
  rcases h with ⟨_, hconfig⟩ | ⟨_, d, hd, hconfig⟩
  · simp [hconfig]
  · simp only [validDigestBits, decide_eq_true_eq] at hd
    rw [hconfig, contextOf]
    split <;> simp <;> omega

/-- t and u agree on every register, and on STATE below index k; BLOCK may be another. -/
def SameBelow (k : Nat) (t u : State) : Prop :=
  u = { t with state := u.state, block := u.block } ∧ AgreeBelow k u.state t.state

section SameBelow
variable {k : Nat} {t u : State}

theorem sameBelow_complete (h : SameBelow k t u) : SameBelow k (complete t) (complete u) :=
  ⟨congrArg complete h.1, h.2⟩

theorem sameBelow_setFin (h : SameBelow k t u) : SameBelow k (setFin t) (setFin u) :=
  ⟨congrArg setFin h.1, h.2⟩

theorem sameBelow_setMlen {v w : Word64} (hv : w = v) (h : SameBelow k t u) : SameBelow k (setMlen v t) (setMlen w u) :=
  hv ▸ ⟨congrArg (setMlen w) h.1, h.2⟩

theorem sameBelow_setDigest {D E : Vector Byte 64} (hD : E = D) (h : SameBelow k t u) :
    SameBelow k (setDigest D t) (setDigest E u) :=
  hD ▸ ⟨congrArg (setDigest E) h.1, h.2⟩

theorem sameBelow_setChain {Y Z : Buf} (hY : AgreeBelow k Y Z) (h : SameBelow k t u) :
    SameBelow k (setChain Z t) (setChain Y u) :=
  ⟨congrArg (setChain Y) h.1, hY⟩

end SameBelow

/-- F, the finalised state of FINAL n, comes of STATE below 8c and of the n tail bytes of BLOCK. -/
theorem finalState_agree {s : State} {X M : Buf} (hc : colsOf s ≤ 16) (hX : AgreeBelow (8 * colsOf s) X s.state)
    (hM : AgreeBelow (8 * colsOf s) M s.block) {n : Byte} (hn : n.toNat ≤ 8 * colsOf s) :
    AgreeBelow (8 * colsOf s) (finalState n (setBlock M (setChain X s))) (finalState n s) := by
  simp only [finalState, finalLength, blockBytes, colsOf_setBlock, colsOf_setChain, roundsOf_setBlock,
    roundsOf_setChain, setBlock_block, setBlock_mlen, setChain_mlen, setBlock_state, setChain_state]
  rw [firstBytes_agree hc hM hn]
  exact outputTransform_agree hc (compressAll_agree hc hX _ _ _) _

/-- The effect of a command that passed its checks reads STATE and BLOCK below 8c at most. -/
theorem effectOf_sameBelow {s : State} {X M : Buf} (hs : LegalContext s) (hX : AgreeBelow (8 * colsOf s) X s.state)
    (hM : AgreeBelow (8 * colsOf s) M s.block) (i : Instr) (hchk : firstError (checksOf i s) = none) :
    SameBelow (8 * colsOf s) (complete (effectOf i s)) (complete (effectOf i (setBlock M (setChain X s)))) := by
  obtain ⟨hc, hd⟩ := legalContext_bounds hs
  have hsame : SameBelow (8 * colsOf s) s (setBlock M (setChain X s)) := ⟨rfl, hX⟩
  have hstate {Y Z : Buf} (hY : AgreeBelow (8 * colsOf s) Y Z) := sameBelow_setChain hY hsame
  apply sameBelow_complete
  cases i with
  | nop | clrerr | gfmul | gftab | sbox => exact ⟨rfl, hX⟩
  | sreset | init => exact ⟨rfl, agreeBelow_refl _ _⟩
  | absorb => exact sameBelow_setMlen rfl (hstate (compress_agree hc hX (roundsOf s) hM))
  | final n =>
    obtain ⟨_, _, hn, _⟩ := (final_checks_iff s).1 hchk
    have hD := truncDigest_agree hc (finalState_agree hc hX hM hn.le) hd
    exact sameBelow_setFin (sameBelow_setMlen rfl
      (sameBelow_setChain (agreeBelow_refl _ _) (sameBelow_setDigest hD hsame)))
  | subb => exact hstate (subBytes_agree hc hX)
  | shiftr => exact hstate (shiftRows_agree hc hX)
  | mixc => exact hstate (mixColumns_agree hc hX)
  | addrcp r => exact hstate (addRcP_agree hc hX r)
  | addrcq r => exact hstate (addRcQ_agree hc hX r)
  | roundp r => exact hstate (roundP_agree hc hX r)
  | roundq r => exact hstate (roundQ_agree hc hX r)
  | permp => exact hstate (permP_agree hc hX (roundsOf s))
  | permq => exact hstate (permQ_agree hc hX (roundsOf s))
  | xorb => exact hstate (xorCells_agree hc hX hM)
  | tcomp => exact hstate (compress_agree hc hX (roundsOf s) hM)
  | outt => exact hstate (outputTransform_agree hc hX (roundsOf s))
  | trunc => exact sameBelow_setDigest (truncDigest_agree hc hX hd) hsame

/-- Settles O32: every layer and the truncation read their columns below 8c only, and FINAL's tail is shorter than a
block. -/
theorem bytesOutsideContextUnread : Obligations.BytesOutsideContextUnread := by
  intro i s X M hs hX hM
  have hchk : checksOf i (setBlock M (setChain X s)) = checksOf i s := by cases i <;> rfl
  obtain ⟨t, u, ht, hu, hreg, hstate⟩ := exec_related (R := SameBelow (8 * colsOf s)) (s := s)
    (u := setBlock M (setChain X s)) rfl hchk ⟨rfl, hX⟩ (fun _ => ⟨rfl, hX⟩) (effectOf_sameBelow hs hX hM i)
  exact ⟨t, u, ht, hu, hreg, hstate⟩

end Sys2Proof.Machine

namespace Sys2Proof.Machine

/-! ## Reading the registers while idle (20_memory.md R202, R203, R205) -/

/-- The four bytes of an array word, least significant first (20_memory.md R203). -/
theorem extractLsb'_arrayWord {n : Nat} (X : Vector Byte n) (q : Nat) {t : Nat} (ht : t < 4) :
    (arrayWord X q).extractLsb' (8 * t) 8 = byteAt X (4 * q + t) := by
  match t, ht with
  | 0, _ => exact cField_packWord _ _ _ _
  | 1, _ => exact bField_packWord _ _ _ _
  | 2, _ => exact aField_packWord _ _ _ _
  | 3, _ => exact opField_packWord _ _ _ _

/-- Settles O47: the read answers the register's value, and each register's value is its clause. -/
theorem idleReadsGiveRegisters : Obligations.IdleReadsGiveRegisters := by
  intro s a rest r hp hh hr
  refine ⟨viewReg s r, step_idle_read hp hh hr, ?id, ?cmd, ?status, ?config, ?result, ?mlenLo, ?mlenHi, ?block, ?state,
    ?digest⟩
  case id | cmd | status | config => rintro rfl; rfl
  case result =>
    rintro rfl
    exact BitVec.toNat_setWidth_of_le (by decide)
  case mlenLo =>
    rintro rfl
    simp [viewReg]
  case mlenHi =>
    rintro rfl
    have hlt := s.mlen.isLt
    simp only [viewReg, BitVec.extractLsb'_toNat, Nat.shiftRight_eq_div_pow]
    omega
  case block | state | digest =>
    rintro q t rfl ht
    exact extractLsb'_arrayWord _ q ht

/-! ## Accesses that are refused or discarded (20_memory.md R204; 70_reset_and_hazards.md R705) -/

/-- While a command runs, a step that is not its last brings it one step nearer and is the host's next move
(70_reset_and_hazards.md R704). -/
theorem step_busy_cons {s : State} {p : Pending} {op : HostOp} {rest : List HostOp} (hp : s.pending = some p)
    (hl : 1 < p.left) (hh : s.host = op :: rest) :
    step s = .next (hostMove op (setHost rest (setPending { p with left := p.left - 1 } s))) := by
  rw [step_busy hp hl, busyTurn, hostTurn_cons (by simpa using hh)]

/-- A read of an address at which no register stands, idle or busy. -/
theorem hostMove_read_unmapped {a : Addr} (hr : regAt a = none) (s : State) :
    hostMove (.read a) s = record (.ofRead .slverr 0) s := by
  rcases hostRead_cases a s with ⟨_, h⟩ | ⟨_, hr', _⟩ | ⟨_, hr', _⟩
  · exact h
  all_goals simp [hr] at hr'

/-- A write while BUSY = 0 to an address with no register, or with a read-only one. -/
theorem hostMove_write_refused {a : Addr} (v : Word) {s : State} (hb : busy s = false)
    (hr : regAt a = none ∨ ∃ r, regAt a = some r ∧ r ≠ .cmd ∧ (∀ q, r ≠ .block q) ∧ ∀ q, r ≠ .state q) :
    hostMove (.write a v) s = record (.ofWrite .slverr) s := by
  rcases hostWrite_cases a v s with ⟨hb', _⟩ | ⟨_, hcmd, _⟩ | ⟨_, q, hq, _⟩ | ⟨_, q, hq, _⟩ | ⟨_, _, h⟩
  · simp [hb] at hb'
  · simp [hcmd] at hr
  · simp [hq] at hr
  · simp [hq] at hr
  · exact h

/-- A write while BUSY = 1, to any address. -/
theorem hostMove_write_busy (a : Addr) (v : Word) {s : State} (hb : busy s = true) :
    hostMove (.write a v) s = record (.ofWrite .okay) (setOvr s) := by
  rcases hostWrite_cases a v s with ⟨_, h⟩ | ⟨hb', _⟩ | ⟨hb', _⟩ | ⟨hb', _⟩ | ⟨hb', _⟩
  · exact h
  all_goals simp [hb] at hb'

/-- Settles O49: each step is one move of the host, and the move is a refusal or a discarded write. -/
theorem refusedAccessesChangeNothing : Obligations.RefusedAccessesChangeNothing := by
  refine ⟨?readIdle, ?readBusy, ?writeIdle, ?writeBusy⟩
  case readIdle =>
    intro s a rest hp hh hr
    rw [step_idle_cons hp hh, hostMove_read_unmapped hr]
    rfl
  case readBusy =>
    intro s p a rest hp hl hh hr
    rw [step_busy_cons hp hl hh, hostMove_read_unmapped hr]
    rfl
  case writeIdle =>
    intro s a v rest hp hh hr
    have hb : busy (setHost rest s) = false := by simp [busy, hp]
    rw [step_idle_cons hp hh, hostMove_write_refused v hb hr]
    rfl
  case writeBusy =>
    intro s p a v rest hp hl hh
    rw [step_busy_cons hp hl hh, hostMove_write_busy a v rfl]
    rfl

/-! ## The address map (10_state.md R101; 20_memory.md R201) -/

/-- A register stands at the aligned addresses of R201 and at no other. -/
theorem regAt_isSome_iff (a : Addr) :
    (regAt a).isSome ↔ a.toNat % 4 = 0 ∧
      (a.toNat ∈ [0x000, 0x004, 0x008, 0x00C, 0x010, 0x018, 0x01C] ∨ (0x080 ≤ a.toNat ∧ a.toNat ≤ 0x0FC) ∨
        (0x100 ≤ a.toNat ∧ a.toNat ≤ 0x17C) ∨ (0x180 ≤ a.toNat ∧ a.toNat ≤ 0x1BC)) := by
  by_cases halign : a.toNat % 4 = 0
  · simp [regAt, apply_ite Option.isSome, halign, or_assoc]
  · simp [regAt, halign]

/-- Word q of an array at a base address, as long as the address is one of the port's. -/
theorem toNat_wordAddr {base q : Nat} (h : base + 4 * q < 1024) :
    (BitVec.ofNat 10 (base + 4 * q)).toNat = base + 4 * q := by
  simpa using h

/-! Word q of BLOCK, STATE and DIGEST stands at offset 4q of its array: every earlier range of `regAt` misses it. -/

theorem regAt_block {q : Nat} (hq : q < 32) : regAt (BitVec.ofNat 10 (0x080 + 4 * q)) = some (.block q) := by
  simp (disch := omega) only [regAt, toNat_wordAddr, if_neg, if_pos, Nat.add_sub_cancel_left, Nat.mul_div_cancel_left]

theorem regAt_state {q : Nat} (hq : q < 32) : regAt (BitVec.ofNat 10 (0x100 + 4 * q)) = some (.state q) := by
  simp (disch := omega) only [regAt, toNat_wordAddr, if_neg, if_pos, Nat.add_sub_cancel_left, Nat.mul_div_cancel_left]

theorem regAt_digest {q : Nat} (hq : q < 16) : regAt (BitVec.ofNat 10 (0x180 + 4 * q)) = some (.digest q) := by
  simp (disch := omega) only [regAt, toNat_wordAddr, if_neg, if_pos, Nat.add_sub_cancel_left, Nat.mul_div_cancel_left]

/-- Settles O46: the domain of the address decoder, its seven single registers and its three arrays. -/
theorem addressMapDecodes : Obligations.AddressMapDecodes :=
  ⟨regAt_isSome_iff, by decide, fun _ hq => ⟨regAt_block hq, regAt_state hq⟩, fun _ => regAt_digest⟩

end Sys2Proof.Machine

namespace Sys2Proof

open Sys2Proof.Safety Sys2Proof.Machine

/-! ## Which words decode, by mask, opcode and must-be-zero bits (30_encoding.md R301, R304-R306) -/

/-- Settles O1: the opcode map reads back the opcode and the operands, and the must-be-zero fields are zero. -/
theorem decodeEncodeRoundTrip : Obligations.DecodeEncodeRoundTrip := decode_encode

/-- A word decodes to the command its opcode selects exactly when it matches under that command's mask. -/
theorem decode_eq_ok_iff_mask {w : Word} {i : Instr} :
    decode w = .ok i ↔ commandAt w = some i ∧ w &&& formatMask (formatOf i) = packWord (opField w) 0 0 0 := by
  constructor
  · intro h
    rcases decode_cases w with ⟨_, hd⟩ | ⟨_, _, hd⟩ | ⟨_, hz, j, hj, _, hd⟩
    · simp [hd] at h
    · simp [hd] at h
    · obtain rfl : j = i := by simpa [hd] using h
      exact ⟨hj, (mask_iff_zeroBits hj).2 hz⟩
  · rintro ⟨hi, hm⟩
    exact decode_eq_ok_iff.2 (encode_eq_of_mask hi hm).symm

/-- The mask of a command is its opcode's: the bits of OP and the bits that must be zero. -/
theorem formatMask_formatOf (i : Instr) :
    formatMask (formatOf i) = 0xFF000000 ||| zeroBits (opcodeOf i) := by
  cases i <;> simp [formatOf, formatMask, opcodeOf, zeroBits]

theorem formatMask_congr {i j : Instr} (h : opcodeOf j = opcodeOf i) :
    formatMask (formatOf j) = formatMask (formatOf i) := by
  rw [formatMask_formatOf, formatMask_formatOf, h]

/-- No mask covers a part of OP only (30_encoding.md R301). -/
theorem opField_and_formatMask (w : Word) (f : Format) : opField (w &&& formatMask f) = opField w := by
  have hmask : opField (formatMask f) = 0xFF := by cases f <;> rfl
  rw [opField, BitVec.extractLsb'_and]
  exact (congrArg (opField w &&& ·) hmask).trans (and_ones_byte _)

/-- The opcode of every command is in the opcode map (30_encoding.md R303). -/
theorem opcodeOf_mem_opcodes (i : Instr) : opcodeOf i ∈ opcodes := by
  cases i <;> simp [opcodeOf, opcodes]

/-- The opcode map selects a command of i's opcode for every word of that opcode. -/
theorem exists_commandAt_of_opcode {w : Word} {i : Instr} (h : opField w = opcodeOf i) :
    ∃ j, commandAt w = some j ∧ opcodeOf j = opcodeOf i := by
  cases hj : commandAt w with
  | none => exact absurd (h ▸ opcodeOf_mem_opcodes i) ((commandAt_none_iff w).1 hj)
  | some j => exact ⟨j, rfl, (opcodeOf_commandAt hj).trans h⟩

/-- Settles O2: commands of one opcode have one mask, and a word that matches under it has that opcode. -/
theorem decodedWordIsItsEncoding : Obligations.DecodedWordIsItsEncoding := by
  refine ⟨fun w i h => (decode_eq_ok_iff.1 h).symm, fun w i => ?_⟩
  rw [← packWord_opcode]
  constructor
  · rintro ⟨j, hd, hop⟩
    obtain ⟨hj, hm⟩ := decode_eq_ok_iff_mask.1 hd
    rwa [formatMask_congr hop, ← opcodeOf_commandAt hj, hop] at hm
  · intro hm
    have hop : opField w = opcodeOf i := by
      simpa [opField_and_formatMask] using congrArg opField hm
    obtain ⟨j, hj, hij⟩ := exists_commandAt_of_opcode hop
    refine ⟨j, decode_eq_ok_iff_mask.2 ⟨hj, ?_⟩, hij⟩
    rw [formatMask_congr hij, hm, hop]

/-! ## Words that are no command (30_encoding.md R304, R305) -/

/-- The decoder answers an illegal opcode for the opcodes outside the map and for no other (30_encoding.md R305). -/
theorem decode_illegalOpcode_iff (w : Word) :
    (∃ op, decode w = .error (.illegalOpcode op)) ↔ opField w ∉ opcodes := by
  rcases decode_cases w with ⟨hop, hd⟩ | ⟨hop, _, hd⟩ | ⟨hop, _, i, _, _, hd⟩ <;> simp [hd, hop]

/-- A word with an opcode outside the map is an illegal opcode (30_encoding.md R305). -/
theorem decode_illegalOpcode {w : Word} (hop : opField w ∉ opcodes) :
    decode w = .error (.illegalOpcode (opField w)) := by
  rcases decode_cases w with ⟨_, hd⟩ | ⟨hin, _⟩ | ⟨hin, _⟩
  · exact hd
  all_goals exact absurd hin hop

/-- A word with an opcode of the map and a must-be-zero bit set is a reserved field (30_encoding.md R304). -/
theorem decode_reservedField {w : Word} (hop : opField w ∈ opcodes) (hz : w &&& zeroBits (opField w) ≠ 0) :
    decode w = .error (.reservedField (opField w)) := by
  rcases decode_cases w with ⟨hout, _⟩ | ⟨_, _, hd⟩ | ⟨_, hz', _⟩
  · exact absurd hop hout
  · exact hd
  · exact absurd hz' hz

/-- With ERR = 0 the completion step of a word that is no command is the error action (60_exceptions.md R601). -/
theorem step_loadWord_error {w : Word} {e : DecodeError} {s : State} (herr : s.err = false)
    (hd : decode w = .error e) :
    step (loadWord w s) = .next (reject (decodeErrorCode e) (decodeErrorOp e) s) := by
  rw [step_loadWord, runWord_error hd, rejectWord, if_neg (by simp [loadWord, herr])]
  rfl

/-- The opcodes outside the map are the five ranges of R305. -/
theorem notMem_opcodes_iff (op : Byte) :
    op ∉ opcodes ↔
      (0x03 ≤ op.toNat ∧ op.toNat ≤ 0x0F) ∨ (0x13 ≤ op.toNat ∧ op.toNat ≤ 0x1F) ∨
        (0x23 ≤ op.toNat ∧ op.toNat ≤ 0x2F) ∨ (0x37 ≤ op.toNat ∧ op.toNat ≤ 0x3F) ∨ 0x46 ≤ op.toNat := by
  simp only [opcodes, List.mem_cons, List.not_mem_nil, or_false, ← BitVec.toNat_inj, BitVec.ofNat_eq_ofNat,
    BitVec.toNat_ofNat]
  omega

/-- Settles O4: the decoder answers an illegal opcode exactly in the ranges of R305, and the error action follows. -/
theorem illegalOpcodesRejected : Obligations.IllegalOpcodesRejected := by
  have hword (op a b c : Byte) : opField (op ++ a ++ b ++ c) = op := opField_packWord op a b c
  refine ⟨fun op a b c s herr hop => ?_, fun op a b c => ?_⟩
  · have hout : opField (op ++ a ++ b ++ c) ∉ opcodes := by rwa [hword, notMem_opcodes_iff]
    rw [step_loadWord_error herr (decode_illegalOpcode hout), hword]
    rfl
  · rw [decode_illegalOpcode_iff, hword, notMem_opcodes_iff]

/-- Settles O5: the word is decoded as a reserved field, and the error action follows. -/
theorem reservedFieldsRejected : Obligations.ReservedFieldsRejected :=
  fun _ _ herr hop hz => step_loadWord_error herr (decode_reservedField hop hz)

/-! ## The printed words and the assembler (30_encoding.md R307) -/

/-- The assembler on one operand: refused when it is wider than its field. -/
theorem map_asmOperand {k : Nat} (f : BitVec k → Instr) (n : Nat) :
    (asmOperand k n).map f = if n < 2 ^ k then some (f (BitVec.ofNat k n)) else none := by
  rw [asmOperand]
  split <;> rfl

/-- The assembler on two operands: refused when one of them is wider than its field. -/
theorem bind_map_asmOperand {k l : Nat} (f : BitVec k → BitVec l → Instr) (m n : Nat) :
    ((asmOperand k m).bind fun x => (asmOperand l n).map fun y => f x y) =
      if m < 2 ^ k ∧ n < 2 ^ l then some (f (BitVec.ofNat k m) (BitVec.ofNat l n)) else none := by
  simp only [asmOperand]
  by_cases hm : m < 2 ^ k <;> simp [hm]

/-- Settles O3: each printed word is its command's encoding, and each form of the assembler is one of three shapes. -/
theorem printedWordsDecode : Obligations.PrintedWordsDecode := by
  have printed {w : Word} {i : Instr} (h : w = encode i) : decode w = .ok i := decode_eq_ok_iff.2 h
  refine ⟨printed rfl, printed rfl, printed rfl, printed rfl, printed rfl, printed rfl, printed rfl, printed rfl,
    printed rfl, printed rfl, printed rfl, printed rfl, printed rfl, printed rfl, printed rfl, printed rfl,
    printed rfl, printed rfl, printed rfl, printed rfl, printed rfl, printed rfl, rfl,
    map_asmOperand _, map_asmOperand _, bind_map_asmOperand _, bind_map_asmOperand _, bind_map_asmOperand _,
    map_asmOperand _, map_asmOperand _, map_asmOperand _, map_asmOperand _⟩

end Sys2Proof

namespace Sys2Proof.Machine

/-! ## RDDIGEST (30_encoding.md R308) -/

/-- No register of the port shows the host's list or the record of responses. -/
theorem viewReg_host_trace (s : State) (ops : List HostOp) (l : List Response) (r : HostReg) :
    viewReg { s with host := ops, trace := l } r = viewReg s r := by
  cases r <;> rfl

/-- A host that reads mapped registers one after the other from an idle core gets their values in that order and
changes no register (20_memory.md R205). -/
theorem run_idle_reads {addr : Nat → Addr} {reg : Nat → HostReg} {rest : List HostOp} (qs : List Nat) {s : State}
    (hreg : ∀ q ∈ qs, regAt (addr q) = some (reg q)) (hp : s.pending = none)
    (hh : s.host = qs.map (fun q => .read (addr q)) ++ rest) :
    Host.Core.run core qs.length s =
      .next { s with
        host := rest
        trace := (qs.map fun q => .ofRead .okay (viewReg s (reg q))).reverse ++ s.trace } := by
  induction qs generalizing s with
  | nil =>
    obtain rfl : s.host = rest := hh
    rfl
  | cons q qs ih =>
    have hstep := step_idle_read hp hh (hreg q List.mem_cons_self)
    refine (run_succ qs.length hstep).trans ((ih ?mapped ?idle ?host).trans ?answers)
    case mapped => exact fun r hr => hreg r (List.mem_cons_of_mem q hr)
    case idle => exact hp
    case host => rfl
    case answers => simp [viewReg_host_trace]

/-- An array word split little-endian is its four bytes (20_memory.md R203). -/
theorem wordBytes_arrayWord {n : Nat} (X : Vector Byte n) (q : Nat) :
    wordBytes (arrayWord X q) = (List.range 4).map fun t => byteAt X (4 * q + t) :=
  List.map_congr_left fun _ ht => extractLsb'_arrayWord X q (List.mem_range.1 ht)

/-- The first n words of an array, split, are its first 4n bytes. -/
theorem flatMap_wordBytes {m : Nat} (X : Vector Byte m) (n : Nat) :
    (List.range n).flatMap (fun q => wordBytes (arrayWord X q)) = firstBytes X (4 * n) := by
  induction n with
  | zero => rfl
  | succ n ih =>
    rw [List.range_succ, List.flatMap_append, List.flatMap_singleton, ih, wordBytes_arrayWord, firstBytes, firstBytes,
      Nat.mul_succ, List.range_add, List.map_append, List.map_map]
    rfl

theorem take_firstBytes {m : Nat} (X : Vector Byte m) {k n : Nat} (h : k ≤ n) :
    (firstBytes X n).take k = firstBytes X k := by
  rw [firstBytes, ← List.map_take, List.take_range, Nat.min_eq_left h, firstBytes]

/-- The result of RDDIGEST, from answers that carry the words of an array in order (30_encoding.md R308). -/
theorem readDigestBytes_answers {m : Nat} (X : Vector Byte m) (k : Nat) (l : List Response) :
    readDigestBytes k
        (((List.range ((k + 3) / 4)).map fun q => .ofRead .okay (arrayWord X q)).reverse ++ l) = firstBytes X k := by
  have hdata : readData ∘ (fun q => .ofRead .okay (arrayWord X q)) = some ∘ arrayWord X := rfl
  have hk : k ≤ 4 * ((k + 3) / 4) := by omega
  rw [readDigestBytes, List.take_left' (by simp), List.reverse_reverse, List.filterMap_map, hdata,
    List.filterMap_eq_map, List.flatMap_map, flatMap_wordBytes, take_firstBytes X hk]

/-- Settles O59: the reads answer DIGEST's words in order, and the words split are its bytes. -/
theorem rddigestReadsTheDigest : Obligations.RddigestReadsTheDigest := by
  intro k s rest hk hp hh
  have hreg : ∀ q ∈ List.range ((k + 3) / 4), regAt (BitVec.ofNat 10 (0x180 + 4 * q)) = some (.digest q) := by
    intro q hq
    have hlt := List.mem_range.1 hq
    exact regAt_digest (by omega)
  have hrun := run_idle_reads _ hreg hp hh
  rw [List.length_range] at hrun
  exact ⟨_, hrun, rfl, readDigestBytes_answers s.digest k s.trace⟩

end Sys2Proof.Machine

namespace Sys2Proof.Machine

/-! ## Field multiplication: additive, and doubling passes through either factor (40_gf_sbox.md R400) -/

/-- R402's form of doubling: the shift, and the reduction as a byte to XOR. -/
theorem xtime_eq (x : Byte) : xtime x = x <<< 1 ^^^ (if x.getLsbD 7 then 0x1D else 0) := by
  rw [xtime]
  cases x.getLsbD 7 with
  | false => exact BitVec.xor_zero.symm
  | true => rfl

theorem xtime_zero : xtime 0 = 0 := rfl

/-- Doubling is additive: the reduction depends on the top bit alone, and the top bits add. -/
theorem xtime_xor (x y : Byte) : xtime (x ^^^ y) = xtime x ^^^ xtime y := by
  have hred (a b : Bool) :
      (if a ^^ b then (0x1D : Byte) else 0) = (if a then 0x1D else 0) ^^^ (if b then 0x1D else 0) := by
    cases a <;> cases b <;> rfl
  rw [xtime_eq, xtime_eq, xtime_eq, BitVec.shiftLeft_xor_distrib, BitVec.getLsbD_xor, hred]
  ac_rfl

/-- Doubling the high seven bits loses nothing, so a byte is its half doubled and its last bit. -/
theorem xtime_half_xor_bit (x : Byte) : xtime (x >>> 1) ^^^ (x &&& 1#8) = x := by
  have hmsb : (x >>> 1).getLsbD 7 = false := by simp
  rw [xtime_eq, hmsb]
  ext i hi
  cases i with
  | zero => simp
  | succ i => simp [Nat.add_comm 1 i, BitVec.getLsbD_eq_getElem hi]

/-- The bytes are generated from 1 by doubling and XOR: GF(2^8) is spanned by the powers of 2. -/
theorem byte_induction {P : Byte → Prop} (zero : P 0) (one : P 1) (double : ∀ x, P x → P (xtime x))
    (xor : ∀ x y, P x → P y → P (x ^^^ y)) (x : Byte) : P x := by
  by_cases hx : x = 0
  · exact hx ▸ zero
  have hhalf : P (x >>> 1) := byte_induction zero one double xor (x >>> 1)
  have hbit : P (x &&& 1#8) := by
    rw [BitVec.and_one_eq_setWidth_ofBool_getLsbD]
    cases x.getLsbD 0 with
    | false => exact zero
    | true => exact one
  exact xtime_half_xor_bit x ▸ xor _ _ (double _ hhalf) hbit
termination_by x.toNat
decreasing_by
  have hpos : x.toNat ≠ 0 := fun h => hx (BitVec.eq_of_toNat_eq h)
  simp only [BitVec.toNat_ushiftRight, Nat.shiftRight_one]
  omega

/-- Doubling passes through the loop, whose operations on x and the sum are doubling and XOR. -/
theorem gfMulFrom_xtime (y : Byte) (n k : Nat) (x acc : Byte) :
    gfMulFrom y n k (xtime x) (xtime acc) = xtime (gfMulFrom y n k x acc) := by
  induction n generalizing k x acc with
  | zero => rfl
  | succ n ih => rw [gfMulFrom, gfMulFrom, ← ih, apply_ite xtime, xtime_xor]

/-- Every turn of the loop is additive in x and the sum; bit k of y chooses the same turn for both summands. -/
theorem gfMulFrom_xor_left (y : Byte) (n k : Nat) (x x' acc acc' : Byte) :
    gfMulFrom y n k (x ^^^ x') (acc ^^^ acc') = gfMulFrom y n k x acc ^^^ gfMulFrom y n k x' acc' := by
  induction n generalizing k x x' acc acc' with
  | zero => rfl
  | succ n ih =>
    rw [gfMulFrom, gfMulFrom, gfMulFrom, ← ih, xtime_xor]
    congr 1
    split
    · ac_rfl
    · rfl

/-- Where bit k is 1 in both summands, x is added twice, which cancels. -/
theorem gfMulFrom_xor_right (y z : Byte) (n k : Nat) (x acc acc' : Byte) :
    gfMulFrom (y ^^^ z) n k x (acc ^^^ acc') = gfMulFrom y n k x acc ^^^ gfMulFrom z n k x acc' := by
  induction n generalizing k x acc acc' with
  | zero => rfl
  | succ n ih =>
    rw [gfMulFrom, gfMulFrom, gfMulFrom, ← ih, BitVec.getLsbD_xor]
    congr 1
    cases y.getLsbD k <;> cases z.getLsbD k
    · rfl
    · exact BitVec.xor_assoc acc acc' x
    · show (acc ^^^ acc') ^^^ x = (acc ^^^ x) ^^^ acc'
      ac_rfl
    · calc acc ^^^ acc' = (acc ^^^ acc') ^^^ (x ^^^ x) := by rw [BitVec.xor_self, BitVec.xor_zero]
        _ = (acc ^^^ x) ^^^ (acc' ^^^ x) := by ac_rfl

theorem gfMul_xtime_left (x y : Byte) : gfMul (xtime x) y = xtime (gfMul x y) := gfMulFrom_xtime y 8 0 x 0

theorem gfMul_xor_left (x x' y : Byte) : gfMul (x ^^^ x') y = gfMul x y ^^^ gfMul x' y :=
  gfMulFrom_xor_left y 8 0 x x' 0 0

theorem gfMul_xor_right (x y z : Byte) : gfMul x (y ^^^ z) = gfMul x y ^^^ gfMul x z :=
  gfMulFrom_xor_right y z 8 0 x 0 0

theorem gfMul_zero_left (y : Byte) : gfMul 0 y = 0 := by simpa using gfMul_xor_left 0 0 y

theorem gfMul_zero_right (x : Byte) : gfMul x 0 = 0 := by simpa using gfMul_xor_right x 0 0

theorem gfMul_one_left : ∀ y : Byte, gfMul 1 y = y := by decide +kernel

theorem gfMul_xtime_right (x y : Byte) : gfMul x (xtime y) = xtime (gfMul x y) := by
  induction x using byte_induction with
  | zero => rw [gfMul_zero_left, gfMul_zero_left, xtime_zero]
  | one => rw [gfMul_one_left, gfMul_one_left]
  | double x ih => rw [gfMul_xtime_left, ih, gfMul_xtime_left]
  | xor x x' ih ih' => rw [gfMul_xor_left, ih, ih', gfMul_xor_left, xtime_xor]

theorem gfMul_one_right (x : Byte) : gfMul x 1 = x := by
  induction x using byte_induction with
  | zero => exact gfMul_zero_left 1
  | one => exact gfMul_one_left 1
  | double x ih => rw [gfMul_xtime_left, ih]
  | xor x x' ih ih' => rw [gfMul_xor_left, ih, ih']

theorem gfMul_comm (x y : Byte) : gfMul x y = gfMul y x := by
  induction x using byte_induction with
  | zero => rw [gfMul_zero_left, gfMul_zero_right]
  | one => rw [gfMul_one_left, gfMul_one_right]
  | double x ih => rw [gfMul_xtime_left, ih, gfMul_xtime_right]
  | xor x x' ih ih' => rw [gfMul_xor_left, ih, ih', gfMul_xor_right]

theorem gfMul_assoc (x y z : Byte) : gfMul (gfMul x y) z = gfMul x (gfMul y z) := by
  induction x using byte_induction with
  | zero => simp only [gfMul_zero_left]
  | one => simp only [gfMul_one_left]
  | double x ih => rw [gfMul_xtime_left, gfMul_xtime_left, ih, gfMul_xtime_left]
  | xor x x' ih ih' => rw [gfMul_xor_left, gfMul_xor_left, ih, ih', gfMul_xor_left]

/-- 2 is 1 doubled, so multiplying by it doubles (40_gf_sbox.md R402). -/
theorem gfMul_two (x : Byte) : gfMul x 2 = xtime x :=
  calc gfMul x 2 = gfMul x (xtime 1) := rfl
    _ = xtime x := by rw [gfMul_xtime_right, gfMul_one_right]

theorem two_gfMul : gfMul 2 = xtime := funext fun x => (gfMul_comm 2 x).trans (gfMul_two x)

/-! ## The powers of 2, and inverses (40_gf_sbox.md R402) -/

/-- The statements repeat a function with core's `Nat.repeat`; the library's orbits and periods use `f^[n]`. -/
theorem repeat_eq_iterate {α : Type} (f : α → α) (n : Nat) (a : α) : Nat.repeat f n a = f^[n] a := by
  induction n with
  | zero => rfl
  | succ n ih => rw [Nat.repeat, ih, Function.iterate_succ_apply']

theorem gfMul_iterate_xtime (k : Nat) (x y : Byte) : gfMul (xtime^[k] x) y = xtime^[k] (gfMul x y) :=
  Function.Semiconj.iterate_right (f := (gfMul · y)) (gfMul_xtime_left · y) k x

/-- The order of 2 divides 255, and no proper divisor of 255 is a period. -/
theorem minimalPeriod_xtime_one : Function.minimalPeriod xtime 1 = 255 := by
  have hdvd : Function.minimalPeriod xtime 1 ∣ 255 :=
    Function.IsPeriodicPt.minimalPeriod_dvd (by decide +kernel : xtime^[255] 1 = 1)
  have hproper : ∀ d ∈ Nat.properDivisors 255, xtime^[d] 1 ≠ 1 := by decide +kernel
  by_contra hne
  have hlt := lt_of_le_of_ne (Nat.le_of_dvd (by decide) hdvd) hne
  exact hproper _ (Nat.mem_properDivisors.2 ⟨hdvd, hlt⟩) Function.iterate_minimalPeriod

/-- From 0 doubling never comes back to 1. -/
theorem iterate_xtime_one_ne_zero {k : Nat} (hk : k < 255) : xtime^[k] 1 ≠ 0 := by
  intro h
  have h0 : xtime^[255 - k] 0 = 0 := Function.iterate_fixed xtime_zero _
  have h1 : xtime^[255] 1 = 1 := minimalPeriod_xtime_one ▸ Function.iterate_minimalPeriod
  rw [← Nat.sub_add_cancel hk.le, Function.iterate_add_apply, h, h0] at h1
  cases h1

/-- 0x11D is primitive: the 255 powers of 2 are distinct and not zero, so they are all the bytes that are not zero. -/
theorem exists_iterate_xtime {x : Byte} (hx : x ≠ 0) : ∃ k < 255, xtime^[k] 1 = x := by
  have hinj : Set.InjOn (xtime^[·] 1) (Finset.range 255) := by
    rw [Finset.coe_range, ← minimalPeriod_xtime_one]
    exact Function.iterate_injOn_Iio_minimalPeriod
  have hsub : (Finset.range 255).image (xtime^[·] 1) ⊆ Finset.univ.erase 0 := by
    intro z hz
    obtain ⟨k, hk, rfl⟩ := Finset.mem_image.1 hz
    simpa using iterate_xtime_one_ne_zero (Finset.mem_range.1 hk)
  have hcard : (Finset.univ.erase (0 : Byte)).card ≤ ((Finset.range 255).image (xtime^[·] 1)).card := by
    rw [Finset.card_image_of_injOn hinj, Finset.card_range, Finset.card_erase_of_mem (Finset.mem_univ _),
      Finset.card_univ, ← FinEnum.card_eq_fintypeCard, FinEnum.card_bitVec]
    exact le_rfl
  have hmem : x ∈ (Finset.range 255).image (xtime^[·] 1) :=
    Finset.eq_of_subset_of_card_le hsub hcard ▸ Finset.mem_erase.2 ⟨hx, Finset.mem_univ x⟩
  simpa using hmem

/-- 2^(255-k) is the inverse of 2^k. -/
theorem exists_gfMul_eq_one {x : Byte} (hx : x ≠ 0) : ∃ y, gfMul x y = 1 := by
  obtain ⟨k, hk, rfl⟩ := exists_iterate_xtime hx
  refine ⟨xtime^[255 - k] 1, ?_⟩
  rw [gfMul_iterate_xtime, gfMul_one_left, ← Function.iterate_add_apply, Nat.add_sub_cancel' hk.le,
    ← minimalPeriod_xtime_one, Function.iterate_minimalPeriod]

/-- An inverse is unique, by associativity; 0x8E doubled is 1. -/
theorem two_gfMul_eq_one_iff (y : Byte) : gfMul 2 y = 1 ↔ y = 0x8E := by
  constructor
  · intro h
    calc y = gfMul (gfMul 0x8E 2) y := (gfMul_one_left y).symm
      _ = gfMul 0x8E 1 := by rw [gfMul_assoc, h]
      _ = 0x8E := gfMul_one_right _
  · rintro rfl
    rfl

/-- Settles O6: the ring laws by induction over doubling and XOR, the order and the inverses from the powers of 2. -/
theorem gfMulFieldLaws : Obligations.GfMulFieldLaws := by
  refine ⟨fun x => ⟨gfMul_zero_right x, gfMul_zero_left x⟩, fun x => ⟨gfMul_one_right x, gfMul_one_left x⟩,
    gfMul_comm, gfMul_xor_right, gfMul_assoc, fun x => (gfMul_two x).trans (xtime_eq x), ⟨?_, ?_⟩,
    fun _ => exists_gfMul_eq_one, two_gfMul_eq_one_iff⟩
  · rw [two_gfMul, repeat_eq_iterate, ← minimalPeriod_xtime_one, Function.iterate_minimalPeriod]
  · intro k hpos hlt
    rw [two_gfMul, repeat_eq_iterate]
    exact Function.not_isPeriodicPt_of_pos_of_lt_minimalPeriod hpos.ne' (minimalPeriod_xtime_one ▸ hlt)

/-! ## GFMUL and GFTAB (40_gf_sbox.md R400, R403, R404) -/

/-- The loop from bit k on, with x already doubled k times, adds x doubled j times for each bit j ≥ k of y. -/
theorem gfMulFrom_eq_foldl (x y : Byte) (n k : Nat) (acc : Byte) :
    gfMulFrom y n k (Nat.repeat xtime k x) acc =
      (List.range' k n).foldl (fun acc j => if y.getLsbD j then acc ^^^ Nat.repeat xtime j x else acc) acc := by
  induction n generalizing k acc with
  | zero => rfl
  | succ n ih =>
    rw [List.range'_succ, List.foldl_cons]
    exact ih (k + 1) _

theorem gfMul_eq_foldl (x y : Byte) :
    gfMul x y =
      (List.range 8).foldl (fun acc j => if y.getLsbD j then acc ^^^ Nat.repeat xtime j x else acc) 0 := by
  rw [List.range_eq_range']
  exact gfMulFrom_eq_foldl x y 8 0 0

/-- Settles O7: both commands take one effect, and the loop's sum is R400's. -/
theorem gfmulAndGftabWriteProduct : Obligations.GfmulAndGftabWriteProduct := by
  intro x y s herr
  refine ⟨complete (setResult (gfMul x y) s), exec_effect herr rfl, exec_effect herr rfl, rfl, ?_⟩
  have hdouble : (fun v : Byte => v <<< 1 ^^^ (if v.getLsbD 7 then 0x1D else 0)) = xtime :=
    funext fun v => (xtime_eq v).symm
  rw [hdouble]
  exact gfMul_eq_foldl x y

/-! ## The S-boxes (40_gf_sbox.md R405, R406) -/

/-- The bytes of a list as a bit mask, which is computed once where a search for every byte would run over the list
256 times. -/
def byteMask (l : List Byte) : Nat := l.foldr (fun b m => 2 ^ b.toNat ||| m) 0

theorem testBit_byteMask (l : List Byte) (y : Byte) : (byteMask l).testBit y.toNat ↔ y ∈ l := by
  induction l with
  | nil => simp [byteMask]
  | cons b l ih =>
    have hcons : byteMask (b :: l) = 2 ^ b.toNat ||| byteMask l := rfl
    rw [hcons, Nat.testBit_or, Bool.or_eq_true, Nat.testBit_two_pow, decide_eq_true_iff, BitVec.toNat_inj, ih,
      List.mem_cons, eq_comm]

theorem mem_of_byteMask_full {l : List Byte} (h : byteMask l = 2 ^ 256 - 1) (y : Byte) : y ∈ l := by
  rw [← testBit_byteMask, h, Nat.testBit_two_pow_sub_one]
  exact decide_eq_true y.isLt

/-- Every byte is an entry of each table. -/
theorem sboxAt_surjective {t : Nat} (ht : t < 4) : Function.Surjective (sboxAt t) := by
  have hfull : ∀ t < 4, byteMask ((List.range 256).map fun k => sboxAt t (BitVec.ofNat 8 k)) = 2 ^ 256 - 1 := by
    decide +kernel
  intro y
  obtain ⟨k, _, hk⟩ := List.mem_map.1 (mem_of_byteMask_full (hfull t ht) y)
  exact ⟨BitVec.ofNat 8 k, hk⟩

/-- No byte is its own entry. -/
theorem sboxAt_ne_self : ∀ t < 4, ∀ x, sboxAt t x ≠ x := by decide +kernel

/-- Settles O8, from the printed tables. -/
theorem sboxesAreBijections : Obligations.SboxesAreBijections :=
  ⟨fun t ht => ⟨sboxAt_surjective ht, sboxAt_ne_self t ht⟩, by decide⟩

theorem sbox_checks (t x : Byte) (s : State) :
    firstError (checksOf (.sbox t x) s) = if t.toNat ≤ 3 then none else some .badSboxIndex := by
  by_cases h : t.toNat ≤ 3 <;> simp [checksOf, firstError, validSboxIndex, h]

/-- Settles O9: the one check of SBOX is the range of t. -/
theorem sboxLooksUpOrRejects : Obligations.SboxLooksUpOrRejects := by
  intro t x s herr
  constructor
  · intro ht
    have hpass : firstError (checksOf (.sbox t x) s) = none := by rw [sbox_checks, if_pos ht]
    exact ⟨_, exec_effect herr hpass, rfl, rfl⟩
  · intro ht
    have hfail : firstError (checksOf (.sbox t x) s) = some .badSboxIndex := by
      rw [sbox_checks, if_neg (Nat.not_le.2 ht)]
    exact exec_rejected herr hfail

end Sys2Proof.Machine

namespace Sys2Proof.Machine

open Sys2Proof.Safety

/-! ## Layer commands in a working context, and sequences of them (41_round_layers.md, its opening paragraph) -/

section Working
variable {s : State}

/-- A legal context has at most 16 columns (10_state.md R111). -/
theorem colsOf_le_of_working (hs : Working s) : colsOf s ≤ 16 := by
  obtain ⟨_, _, hlegal⟩ := hs
  exact (legalContext_bounds hlegal).1

/-- A command that needs a context and writes STATE alone does so there (60_exceptions.md R602). -/
theorem exec_of_working {i : Instr} {X : Buf} (hs : Working s) (hi : exec i s = stateCommand i X s) :
    exec i s = .next (complete (setChain X s)) := by
  obtain ⟨herr, hcfg, _⟩ := hs
  rw [hi, stateCommand_effect i X herr hcfg]

theorem onlyState_setChain {X : Buf} : OnlyState s (complete (setChain X s)) := rfl

/-- A new STATE leaves the context and the error fields alone. -/
theorem working_setChain (X : Buf) (hs : Working s) : Working (setChain X s) := hs

theorem working_complete (hs : Working s) : Working (complete s) := hs

/-- Of two commands that write STATE alone the second one's STATE remains. -/
theorem setChain_complete_setChain (X Y : Buf) (s : State) :
    complete (setChain Y (complete (setChain X s))) = complete (setChain Y s) := rfl

/-- In a sequence a command that writes STATE alone hands its STATE on. -/
theorem runCommands_cons_of_working {i : Instr} {X : Buf} (is : List Instr) (hs : Working s)
    (hi : exec i s = stateCommand i X s) :
    runCommands (i :: is) s = runCommands is (complete (setChain X s)) := by
  rw [runCommands, exec_of_working hs hi]

end Working

/-- Arrays that agree on every cell of c columns and on the bytes past them are equal. -/
theorem buf_ext_cells {c : Nat} {X Y : Buf} (hin : ∀ j, j < c → ∀ i, i < 8 → cell X j i = cell Y j i)
    (hout : ∀ k, 8 * c ≤ k → k < 128 → byteAt X k = byteAt Y k) : X = Y := by
  apply buf_ext
  intro k hk
  rcases Nat.lt_or_ge k (8 * c) with hlt | hge
  · rw [byteAt_eq_cell X, byteAt_eq_cell Y]
    exact hin _ (by omega) _ (by omega)
  · exact hout k hge hk

/-! ## The cells that each layer leaves (41_round_layers.md R410-R420, 00_scope.md R9) -/

section Cells
variable {c : Nat} (X : Buf) {j i : Nat} (hc : c ≤ 16) (hj : j < c)
include hc hj

theorem cell_subBytes (hi : i < 8) : cell (subBytes c X) j i = sboxAt (i % 4) (cell X j i) :=
  cell_mapCells X _ hc hj hi

theorem cell_shiftRows (hi : i < 8) : cell (shiftRows c X) j i = cell X (shiftSource c j i) i :=
  cell_mapCells X _ hc hj hi

theorem cell_mixColumns (hi : i < 8) :
    cell (mixColumns c X) j i = xorSum8 fun b => gfMul (cell X j b) (mds i b) :=
  cell_mapCells X _ hc hj hi

theorem cell_addRcP_zero (r : Byte) : cell (addRcP c r X) j 0 = cell X j 0 ^^^ rcP j r :=
  cell_mapCells X _ hc hj (by decide)

theorem cell_addRcP_of_pos (r : Byte) (hpos : 1 ≤ i) (hi : i < 8) : cell (addRcP c r X) j i = cell X j i :=
  (cell_mapCells X _ hc hj hi).trans (if_neg (by omega))

theorem cell_addRcQ (r : Byte) (hi : i < 8) : cell (addRcQ c r X) j i = le64byte (columnWord X j + wq c j r) i :=
  cell_mapCells X _ hc hj hi

theorem cell_xorCells (Y : Buf) (hi : i < 8) : cell (xorCells c X Y) j i = cell X j i ^^^ cell Y j i :=
  cell_mapCells X _ hc hj hi

end Cells

/-! ## SUBB (41_round_layers.md R410) -/

/-- Settles O10: SubBytes cell by cell, and the bytes past the columns. -/
theorem subbSubstitutesEveryByte : Obligations.SubbSubstitutesEveryByte := fun s hs =>
  ⟨_, exec_of_working hs rfl, onlyState_setChain, fun _ _ => cell_subBytes s.state (colsOf_le_of_working hs),
    fun _ => subBytes_outside s.state⟩

/-! ## SHIFTR (41_round_layers.md R412-R414) -/

/-- Moving sh(i, c) columns up and then looking sh(i, c) columns back finds the column again. -/
theorem shiftSource_add_shiftAmount {c j : Nat} (hj : j < c) (i : Nat) :
    shiftSource c ((j + shiftAmount i c) % c) i = j := by
  rw [shiftSource, Int.natCast_emod, Int.emod_sub_emod, Nat.cast_add, add_sub_cancel_right,
    Int.emod_eq_of_lt (by omega) (by omega), Int.toNat_natCast]

/-- ShiftRows from where a byte comes to where it goes. -/
theorem cell_shiftRows_target {c : Nat} (X : Buf) {j i : Nat} (hc : c ≤ 16) (hj : j < c) (hi : i < 8) :
    cell (shiftRows c X) ((j + shiftAmount i c) % c) i = cell X j i := by
  rw [cell_shiftRows X hc (Nat.mod_lt _ (by omega)) hi, shiftSource_add_shiftAmount hj]

/-- Settles O11: the amount of the statement is `shiftAmount`. -/
theorem shiftrMovesRows : Obligations.ShiftrMovesRows := fun s hs =>
  ⟨_, exec_of_working hs rfl, onlyState_setChain,
    fun _ _ => cell_shiftRows_target s.state (colsOf_le_of_working hs), fun _ => shiftRows_outside s.state⟩

/-! ## MIXC (41_round_layers.md R415-R417) -/

/-- The printed matrix is circulant: each row is the first one turned right by the row's number (R415). -/
theorem mds_eq_circulant : ∀ row, row < 8 → ∀ b, b < 8 →
    mds row b = ([0x01, 0x01, 0x05, 0x01, 0x08, 0x06, 0x07, 0x04] : List Byte).getD ((b + 8 - row) % 8) 0 := by
  decide

theorem xorSum8_eq_foldl (f : Nat → Byte) : xorSum8 f = (List.range 8).foldl (fun acc b => acc ^^^ f b) 0 := by
  simp [xorSum8, List.range_succ]

/-- Settles O12: the eight products of a cell's sum, with the matrix read as circulant. -/
theorem mixcMultipliesColumnsByMds : Obligations.MixcMultipliesColumnsByMds := by
  intro s hs
  refine ⟨_, exec_of_working hs rfl, onlyState_setChain, fun j row hj hrow => ?_,
    fun _ => mixColumns_outside s.state⟩
  rw [← xorSum8_eq_foldl]
  refine (cell_mixColumns s.state (colsOf_le_of_working hs) hj hrow).trans (xorSum8_congr fun b hb => ?_)
  rw [mds_eq_circulant row hrow b hb]

theorem xorSum8_xor (f g : Nat → Byte) : xorSum8 (fun b => f b ^^^ g b) = xorSum8 f ^^^ xorSum8 g := by
  simp only [xorSum8]
  ac_rfl

/-- MixColumns is linear because each product is, in the state's byte. -/
theorem mixColumns_xorCells {c : Nat} (X Y : Buf) (hc : c ≤ 16) :
    mixColumns c (xorCells c X Y) = xorCells c (mixColumns c X) (mixColumns c Y) := by
  apply buf_ext_cells (c := c)
  · intro j hj i hi
    have hproducts : ∀ b, b < 8 → gfMul (cell (xorCells c X Y) j b) (mds i b) =
        gfMul (cell X j b) (mds i b) ^^^ gfMul (cell Y j b) (mds i b) := fun b hb => by
      rw [cell_xorCells X hc hj Y hb, gfMul_xor_left]
    rw [cell_mixColumns _ hc hj hi, xorSum8_congr hproducts, xorSum8_xor, cell_xorCells _ hc hj _ hi,
      cell_mixColumns X hc hj hi, cell_mixColumns Y hc hj hi]
  · intro k hk h
    rw [mixColumns_outside _ hk h, xorCells_outside _ hk h, xorCells_outside _ hk h, mixColumns_outside _ hk h]

/-- Settles O17: each MIXC leaves the MixColumns of its own STATE. -/
theorem mixcIsLinear : Obligations.MixcIsLinear := by
  intro s X Y hs
  refine ⟨_, _, _, exec_of_working (working_setChain X hs) rfl, exec_of_working (working_setChain Y hs) rfl,
    exec_of_working (working_setChain (xorCells (colsOf s) X Y) hs) rfl, ?_⟩
  simpa only [complete_state, setChain_state, colsOf_setChain] using
    mixColumns_xorCells X Y (colsOf_le_of_working hs)

/-! ## ADDRCP and ADDRCQ (41_round_layers.md R418-R421) -/

/-- With at most 16 columns the constant of AddRcP loses nothing to the width of a byte (R418). -/
theorem toNat_rcP {j : Nat} (hj : j < 16) (r : Byte) : (rcP j r).toNat = (j * 0x10) ^^^ r.toNat := by
  rw [rcP, BitVec.toNat_xor, BitVec.toNat_ofNat, Nat.mod_eq_of_lt (by omega)]

/-- Settles O13: row 0 takes the constant, and no other row does. -/
theorem addrcpXorsRowZero : Obligations.AddrcpXorsRowZero := by
  intro r s hs
  have hc := colsOf_le_of_working hs
  refine ⟨_, exec_of_working hs rfl, onlyState_setChain, fun j hj => ?_,
    fun _ _ hj => cell_addRcP_of_pos s.state hc hj r, fun _ hk h => addRcP_outside s.state hk h r⟩
  rw [← toNat_rcP (by omega) r, ← BitVec.toNat_xor]
  exact congrArg BitVec.toNat (cell_addRcP_zero s.state hc hj r)

/-- The bytes of a 64-bit value, put together again, are the value (00_scope.md R7). -/
theorem le64_le64byte (v : Word64) : le64 (le64byte v) = v := by
  apply BitVec.eq_of_toNat_eq
  simp only [le64, le64byte, toNat_append_add, BitVec.extractLsb'_toNat, Nat.shiftRight_eq_div_pow]
  omega

/-- AddRcQ adds to the column as one number (R420). -/
theorem le64_addRcQ {c : Nat} (X : Buf) {j : Nat} (hc : c ≤ 16) (hj : j < c) (r : Byte) :
    le64 (cell (addRcQ c r X) j) = le64 (cell X j) + wq c j r :=
  (le64_congr fun _ => cell_addRcQ X hc hj r).trans (le64_le64byte _)

/-- A byte moved to the top of a column loses none of its bits. -/
theorem toNat_setWidth_shiftLeft_top (b : Byte) : (b.setWidth 64 <<< 56).toNat = b.toNat <<< 56 := by
  have hfits : b.toNat <<< 56 < 2 ^ 64 := by
    rw [Nat.shiftLeft_eq]
    omega
  rw [BitVec.toNat_shiftLeft, BitVec.toNat_setWidth_of_le (by decide), Nat.mod_eq_of_lt hfits]

/-- With at most 16 columns the constant of AddRcQ is that of the natural numbers (R420). -/
theorem toNat_wq {c : Nat} (j : Nat) (hc : c ≤ 16) (r : Byte) :
    (wq c j r).toNat = 0x00F0F0F0F0F0F0F3 ^^^ ((((c - j - 1) * 0x10) ^^^ r.toNat) <<< 56) :=
  calc (wq c j r).toNat
      = 0x00F0F0F0F0F0F0F3 ^^^ ((rcP (c - j - 1) r).setWidth 64 <<< 56).toNat := BitVec.toNat_xor ..
    _ = 0x00F0F0F0F0F0F0F3 ^^^ ((((c - j - 1) * 0x10) ^^^ r.toNat) <<< 56) := by
      rw [toNat_setWidth_shiftLeft_top, toNat_rcP (by omega)]

/-- Settles O14: the sum of 64-bit values, read as natural numbers. -/
theorem addrcqAddsColumnConstants : Obligations.AddrcqAddsColumnConstants := by
  intro r s hs
  have hc := colsOf_le_of_working hs
  refine ⟨_, exec_of_working hs rfl, onlyState_setChain, fun j hj => ?_,
    fun _ hk h => addRcQ_outside s.state hk h r⟩
  rw [← toNat_wq j hc r, ← BitVec.toNat_add]
  exact congrArg BitVec.toNat (le64_addRcQ s.state hc hj r)

/-! ## ROUNDP and ROUNDQ (41_round_layers.md R422-R424) -/

/-- A command that writes X to STATE, and then the three layers that both rounds share (R422). -/
theorem runCommands_then_subb_shiftr_mixc {i : Instr} {X : Buf} {s : State} (hs : Working s)
    (hi : exec i s = stateCommand i X s) :
    runCommands [i, .subb, .shiftr, .mixc] s =
      .next (complete (setChain (mixColumns (colsOf s) (shiftRows (colsOf s) (subBytes (colsOf s) X))) s)) := by
  have hnext (Y : Buf) : Working (complete (setChain Y s)) := working_complete (working_setChain Y hs)
  rw [runCommands_cons_of_working _ hs hi, runCommands_cons_of_working _ (hnext _) rfl, setChain_complete_setChain,
    runCommands_cons_of_working _ (hnext _) rfl, setChain_complete_setChain,
    runCommands_cons_of_working _ (hnext _) rfl, setChain_complete_setChain, runCommands]
  simp only [colsOf_complete, colsOf_setChain, complete_state, setChain_state]

/-- Settles O15: the round's function is the composition of the layers' functions. -/
theorem roundIsFourLayers : Obligations.RoundIsFourLayers := fun _ _ hs =>
  ⟨⟨_, exec_of_working hs rfl, onlyState_setChain, runCommands_then_subb_shiftr_mixc hs rfl⟩,
    ⟨_, exec_of_working hs rfl, onlyState_setChain, runCommands_then_subb_shiftr_mixc hs rfl⟩⟩

/-! ## Layers that undo themselves (42_permutations_compression.md R444; 41_round_layers.md R419, R414) -/

section Restore
variable {c : Nat} (X : Buf) (hc : c ≤ 16)
include hc

theorem xorCells_xorCells (Y : Buf) : xorCells c (xorCells c X Y) Y = X := by
  apply buf_ext_cells (c := c)
  · intro j hj i hi
    rw [cell_xorCells _ hc hj Y hi, cell_xorCells X hc hj Y hi, xor_cancel_right]
  · intro k hk h
    rw [xorCells_outside _ hk h, xorCells_outside X hk h]

theorem addRcP_addRcP (r : Byte) : addRcP c r (addRcP c r X) = X := by
  apply buf_ext_cells (c := c)
  · intro j hj i hi
    rcases Nat.eq_zero_or_pos i with rfl | hpos
    · rw [cell_addRcP_zero _ hc hj r, cell_addRcP_zero X hc hj r, xor_cancel_right]
    · rw [cell_addRcP_of_pos _ hc hj r hpos hi, cell_addRcP_of_pos X hc hj r hpos hi]
  · intro k hk h
    rw [addRcP_outside _ hk h, addRcP_outside X hk h]

/-- After n turns of ShiftRows row i has moved n * sh(i, c) columns. -/
theorem cell_iterate_shiftRows {j i : Nat} (hj : j < c) (hi : i < 8) (n : Nat) :
    cell ((shiftRows c)^[n] X) ((j + n * shiftAmount i c) % c) i = cell X j i := by
  induction n with
  | zero => rw [Nat.zero_mul, Nat.add_zero, Nat.mod_eq_of_lt hj, Function.iterate_zero_apply]
  | succ n ih =>
    have hcol : (j + (n + 1) * shiftAmount i c) % c = ((j + n * shiftAmount i c) % c + shiftAmount i c) % c := by
      rw [Nat.mod_add_mod, Nat.succ_mul, Nat.add_assoc]
    rw [hcol, Function.iterate_succ_apply', cell_shiftRows_target _ hc (Nat.mod_lt _ (by omega)) hi, ih]

omit hc in
theorem iterate_shiftRows_outside {k : Nat} (hk : 8 * c ≤ k) (h : k < 128) (n : Nat) :
    byteAt ((shiftRows c)^[n] X) k = byteAt X k := by
  induction n with
  | zero => rfl
  | succ n ih => rw [Function.iterate_succ_apply', shiftRows_outside _ hk h, ih]

/-- As many turns as there are columns move every row by a multiple of their number. -/
theorem iterate_shiftRows_cols : (shiftRows c)^[c] X = X := by
  apply buf_ext_cells (c := c)
  · intro j hj i hi
    have hcol : (j + c * shiftAmount i c) % c = j := by rw [Nat.add_mul_mod_self_left, Nat.mod_eq_of_lt hj]
    simpa only [hcol] using cell_iterate_shiftRows X hc hj hi c
  · exact fun k hk h => iterate_shiftRows_outside X hk h c

end Restore

/-- A command that writes STATE alone, as a function f of STATE that reads the columns and BLOCK besides, leaves n turns
of f after n times. -/
theorem runCommands_replicate {i : Instr} (f : Buf → Buf) (n : Nat) {s : State} (hs : Working s)
    (hi : ∀ t, colsOf t = colsOf s → t.block = s.block → exec i t = stateCommand i (f t.state) t) :
    ∃ t, runCommands (List.replicate n i) s = .next t ∧ t.state = f^[n] s.state := by
  induction n generalizing s with
  | zero => exact ⟨s, rfl, rfl⟩
  | succ n ih =>
    obtain ⟨t, hrun, hstate⟩ := ih (working_complete (working_setChain (f s.state) hs)) hi
    exact ⟨t, (runCommands_cons_of_working _ hs (hi s rfl rfl)).trans hrun, hstate⟩

/-- Settles O16: each command's layer undoes itself, ShiftRows after as many turns as there are columns. -/
theorem repeatedLayersRestoreState : Obligations.RepeatedLayersRestoreState := by
  intro s hs
  have hc := colsOf_le_of_working hs
  refine ⟨?_, fun r => ?_, fun hcols => ?_⟩
  · obtain ⟨t, hrun, hstate⟩ := runCommands_replicate (i := .xorb) (xorCells (colsOf s) · s.block) 2 hs
      fun t hcols hblock => by rw [← hcols, ← hblock]; rfl
    exact ⟨t, hrun, hstate.trans (xorCells_xorCells s.state hc s.block)⟩
  · obtain ⟨t, hrun, hstate⟩ := runCommands_replicate (i := .addrcp r) (addRcP (colsOf s) r) 2 hs
      fun t hcols _ => by rw [← hcols]; rfl
    exact ⟨t, hrun, hstate.trans (addRcP_addRcP s.state hc r)⟩
  · obtain ⟨t, hrun, hstate⟩ := runCommands_replicate (i := .shiftr) (shiftRows 8) 8 hs
      fun t ht _ => by rw [← hcols, ← ht]; rfl
    exact ⟨t, hrun, hstate.trans (iterate_shiftRows_cols s.state (by decide))⟩

end Sys2Proof.Machine

namespace Sys2Proof.Machine

open Sys2Proof.Safety

/-! ## The contexts of a working core (00_scope.md R6, 10_state.md R111) -/

theorem contextOf_of_le {d : BitVec 16} (h : d.toNat ≤ 256) :
    contextOf d = { dbits := d.setWidth 10, rounds := 10, cols := 8 } := if_pos h

theorem contextOf_of_gt {d : BitVec 16} (h : 256 < d.toNat) :
    contextOf d = { dbits := d.setWidth 10, rounds := 14, cols := 16 } := if_neg (by omega)

theorem validDigestBits_iff {d : BitVec 16} :
    validDigestBits d = true ↔ d.toNat % 8 = 0 ∧ 8 ≤ d.toNat ∧ d.toNat ≤ 512 := decide_eq_true_iff

/-- A working core has one of two geometries, and a digest whose size belongs to it. -/
theorem context_cases_of_working {s : State} (hs : Working s) :
    (colsOf s = 8 ∧ roundsOf s = 10 ∧ 1 ≤ digestBytes s ∧ digestBytes s ≤ 32) ∨
    (colsOf s = 16 ∧ roundsOf s = 14 ∧ 32 < digestBytes s ∧ digestBytes s ≤ 64) := by
  obtain ⟨_, hcfg, ⟨hnone, _⟩ | ⟨_, d, hd, hconfig⟩⟩ := hs
  · exact absurd hcfg (by simp [hnone])
  · obtain ⟨hwhole, hmin, hmax⟩ := validDigestBits_iff.1 hd
    have hbits : (d.setWidth 10).toNat = d.toNat := by
      rw [BitVec.toNat_setWidth, Nat.mod_eq_of_lt (by omega)]
    unfold colsOf roundsOf digestBytes
    rcases Nat.lt_or_ge 256 d.toNat with hlarge | hsmall
    · right
      rw [hconfig, contextOf_of_gt hlarge, hbits]
      exact ⟨rfl, rfl, by omega, by omega⟩
    · left
      rw [hconfig, contextOf_of_le hsmall, hbits]
      exact ⟨rfl, rfl, by omega, by omega⟩

/-! ## PERMP and PERMQ (42_permutations_compression.md R440-R443) -/

/-- A sequence of commands, at least one, each of which writes STATE alone, as a function of STATE that reads the
columns besides, leaves the fold of these functions. -/
theorem runCommands_map_of_working {α : Type} {i : α → Instr} (f : Buf → α → Buf) {rs : List α}
    (hne : rs ≠ []) {s : State} (hs : Working s)
    (hi : ∀ r t, colsOf t = colsOf s → exec (i r) t = stateCommand (i r) (f t.state r) t) :
    runCommands (rs.map i) s = .next (complete (setChain (rs.foldl f s.state) s)) := by
  induction rs generalizing s with
  | nil => exact absurd rfl hne
  | cons r rs ih =>
    rw [List.map_cons, runCommands_cons_of_working _ hs (hi r s rfl), List.foldl_cons]
    rcases eq_or_ne rs [] with rfl | hrest
    · rfl
    · exact ih hrest (working_complete (working_setChain _ hs)) hi

/-- Settles O18: each permutation is the fold of its rounds, and there is at least one round. -/
theorem permutationIsItsRounds : Obligations.PermutationIsItsRounds := by
  intro s hs
  have hcontext := context_cases_of_working hs
  have hrounds : List.range (roundsOf s) ≠ [] := by
    rw [Ne, List.range_eq_nil]
    omega
  refine ⟨by split <;> omega, by omega, ⟨_, exec_of_working hs rfl, onlyState_setChain, ?_⟩,
    ⟨_, exec_of_working hs rfl, onlyState_setChain, ?_⟩⟩
  · exact runCommands_map_of_working (fun Y r => roundP (colsOf s) (BitVec.ofNat 8 r) Y) hrounds hs
      fun r t ht => by rw [← ht]; rfl
  · exact runCommands_map_of_working (fun Y r => roundQ (colsOf s) (BitVec.ofNat 8 r) Y) hrounds hs
      fun r t ht => by rw [← ht]; rfl

/-! ## XORB, TCOMP and OUTT (42_permutations_compression.md R444-R448) -/

/-- XOR of two states, by the index of the byte (00_scope.md R9). -/
theorem byteAt_xorCells {c : Nat} (X Y : Buf) (hc : c ≤ 16) {k : Nat} (hk : k < 8 * c) :
    byteAt (xorCells c X Y) k = byteAt X k ^^^ byteAt Y k := by
  rw [xorCells, byteAt_mapCells _ _ _ (by omega), if_pos hk, ← byteAt_eq_cell, ← byteAt_eq_cell]

/-- Settles O19: the XOR byte by byte, and the bytes past the columns. -/
theorem xorbXorsBlock : Obligations.XorbXorsBlock := fun s hs =>
  ⟨_, exec_of_working hs rfl, onlyState_setChain,
    fun _ => byteAt_xorCells s.state s.block (colsOf_le_of_working hs),
    fun _ hk h => xorCells_outside s.state hk h s.block⟩

/-- A byte of T(S, M) (R445). -/
theorem byteAt_compress (n : Nat) {c : Nat} (S M : Buf) (hc : c ≤ 16) {k : Nat} (hk : k < 8 * c) :
    byteAt (compress n c S M) k =
      byteAt (permP n c (xorCells c S M)) k ^^^ byteAt (permQ n c M) k ^^^ byteAt S k := by
  rw [compress, byteAt_xorCells _ _ hc hk, byteAt_xorCells _ _ hc hk]

/-- XORB and then PERMP leave P(S ^ M). -/
theorem runCommands_xorb_permp {s : State} (hs : Working s) :
    runCommands [.xorb, .permp] s =
      .next (complete (setChain (permP (roundsOf s) (colsOf s) (xorCells (colsOf s) s.state s.block)) s)) := by
  rw [runCommands_cons_of_working _ hs rfl,
    runCommands_cons_of_working _ (working_complete (working_setChain _ hs)) rfl, setChain_complete_setChain,
    runCommands]
  rfl

/-- Settles O20: the bytes of T, its three parts being what the named commands leave. -/
theorem tcompIsPXorQXorState : Obligations.TcompIsPXorQXorState := fun s hs =>
  ⟨_, _, _, exec_of_working hs rfl, onlyState_setChain, runCommands_xorb_permp hs,
    exec_of_working (working_setChain s.block hs) rfl,
    fun _ => byteAt_compress (roundsOf s) s.state s.block (colsOf_le_of_working hs),
    fun _ hk h => compress_outside s.state hk h (roundsOf s) s.block⟩

/-- Settles O21: the output transform is the XOR of what PERMP leaves with the state. -/
theorem outtXorsPermutedState : Obligations.OuttXorsPermutedState := fun s hs =>
  ⟨_, _, exec_of_working hs rfl, onlyState_setChain, exec_of_working hs rfl,
    fun _ => byteAt_xorCells (permP (roundsOf s) (colsOf s) s.state) s.state (colsOf_le_of_working hs),
    fun _ hk h => outputTransform_outside s.state hk h (roundsOf s)⟩

/-! ## TRUNC (42_permutations_compression.md R449, R450) -/

/-- TRUNC in a working context writes DIGEST and nothing else. -/
theorem exec_trunc_of_working {s : State} (hs : Working s) :
    exec .trunc s = .next (complete (setDigest (truncDigest (colsOf s) (digestBytes s) s.state) s)) := by
  obtain ⟨herr, hcfg, _⟩ := hs
  exact exec_effect herr (by simp [checksOf, needsContext, hcfg])

theorem onlyDigest_setDigest {s : State} {D : Vector Byte 64} : OnlyDigest s (complete (setDigest D s)) := rfl

/-- Settles O22: in both geometries the digest fits the state and DIGEST. -/
theorem truncTakesTrailingBytes : Obligations.TruncTakesTrailingBytes := by
  intro s hs
  have hcontext := context_cases_of_working hs
  have hfits : digestBytes s ≤ 8 * colsOf s := by omega
  refine ⟨_, exec_trunc_of_working hs, onlyDigest_setDigest, by omega, hfits, by omega, fun k hk => ?_,
    fun k => byteAt_truncDigest_past s.state⟩
  exact (byteAt_truncDigest hfits s.state (by omega)).trans (if_pos hk)

/-! ## The digests of one message (42_permutations_compression.md R449, 43_hash_control.md R468) -/

/-- The finalized state of a message over n rounds and c columns (43_hash_control.md R468). -/
def hashState (n c : Nat) (m : List Byte) : Buf :=
  outputTransform n c
    (compressAll n c (8 * c) (padSuffix m (BitVec.ofNat 64 (8 * m.length)) (8 * c)) (initialState c))

/-- The last d of the first B bytes of an array (R449). -/
theorem drop_firstBytes {n : Nat} (X : Vector Byte n) {d B : Nat} (h : d ≤ B) :
    (firstBytes X B).drop (B - d) = (List.range d).map fun k => byteAt X (B - d + k) := by
  have hsplit : List.range B = List.range (B - d) ++ (List.range d).map (B - d + ·) := by
    rw [← List.range_add, Nat.sub_add_cancel h]
  rw [firstBytes, hsplit, List.map_append, List.drop_left' (by simp), List.map_map]
  rfl

/-- A valid digest fits the state of its context (00_scope.md R6). -/
theorem digest_fits_context {d : BitVec 16} (hd : validDigestBits d = true) :
    d.toNat / 8 ≤ 8 * (contextOf d).cols.toNat := by
  obtain ⟨_, _, hmax⟩ := validDigestBits_iff.1 hd
  rcases Nat.lt_or_ge 256 d.toNat with hlarge | hsmall
  · rw [contextOf_of_gt hlarge]
    change _ ≤ 128
    omega
  · rw [contextOf_of_le hsmall]
    change _ ≤ 64
    omega

/-- Two digest sizes on the same side of 256 bits have the same geometry (00_scope.md R6). -/
theorem contextOf_same_geometry {d e : BitVec 16} (hde : d.toNat ≤ e.toNat)
    (hside : e.toNat ≤ 256 ∨ 256 < d.toNat) :
    (contextOf d).rounds = (contextOf e).rounds ∧ (contextOf d).cols = (contextOf e).cols := by
  rcases hside with hsmall | hlarge
  · rw [contextOf_of_le hsmall, contextOf_of_le (hde.trans hsmall)]
    exact ⟨rfl, rfl⟩
  · rw [contextOf_of_gt hlarge, contextOf_of_gt (hlarge.trans_le hde)]
    exact ⟨rfl, rfl⟩

/-- A digest is the end of the finalized state. -/
theorem hashOf_eq_drop (m : List Byte) {d : BitVec 16} (hd : validDigestBits d = true) :
    hashOf m d =
      (firstBytes (hashState (contextOf d).rounds.toNat (contextOf d).cols.toNat m) (8 * (contextOf d).cols.toNat)).drop
        (8 * (contextOf d).cols.toNat - d.toNat / 8) := by
  rw [drop_firstBytes _ (digest_fits_context hd)]
  rfl

/-- Settles O34: both digests are ends of one finalized state, and the end of an end is an end. -/
theorem shorterDigestIsTrailing : Obligations.ShorterDigestIsTrailing := by
  intro m d e hd he hde hside
  obtain ⟨hrounds, hcols⟩ := contextOf_same_geometry hde hside
  have hfits := digest_fits_context he
  have hbytes : d.toNat / 8 ≤ e.toNat / 8 := Nat.div_le_div_right hde
  refine ⟨by simp [hashOf], ?_⟩
  rw [hashOf_eq_drop m hd, hashOf_eq_drop m he, List.drop_drop, hrounds, hcols]
  congr 1
  omega

end Sys2Proof.Machine


namespace Sys2Proof.Machine

open Sys2Proof.Safety

/-! ## NOP, SRESET and CLRERR (43_hash_control.md R460-R462) -/

/-- Every byte of a cleared array. -/
theorem byteAt_replicate_zero {n k : Nat} (h : k < n) : byteAt (Vector.replicate n (0 : Byte)) k = 0 := by
  rw [byteAt_lt _ h, Vector.getElem_replicate]

/-- Settles O23: ignored or performed, NOP is `complete`; it has no check to fail. -/
theorem nopChangesNothing : Obligations.NopChangesNothing := by
  intro s
  rcases command_cases .nop [] s s with ⟨_, hign⟩ | ⟨_, e, hfail, _⟩ | ⟨_, _, heff⟩
  · exact hign
  · exact absurd hfail nofun
  · exact heff

/-- After SRESET STATUS reads as 0, and CONFIG does (10_state.md R121). -/
theorem statusWord_resetCore (s : State) : statusWord (complete (resetCore s)) = 0 := by
  change statusWord State.reset = 0
  decide

theorem configWord_reset : configWord State.reset.config = 0 := by decide

/-- Settles O24: each register is its field of `State.reset`. -/
theorem sresetGivesResetValues : Obligations.SresetGivesResetValues := fun s =>
  ⟨_, exec_sreset s, rfl, statusWord_resetCore s, configWord_reset, rfl, rfl, rfl, rfl, rfl, rfl, rfl, rfl,
    fun _ hk => ⟨byteAt_replicate_zero hk, byteAt_replicate_zero hk⟩, fun _ => byteAt_replicate_zero, rfl, rfl, rfl⟩

/-- Settles O25: the four fields are those of `clearErrors`. -/
theorem clrerrClearsErrorFields : Obligations.ClrerrClearsErrorFields := exec_clrerr

/-! ## INIT (43_hash_control.md R463, R464) -/

/-- INIT of a valid size takes its effect whenever no error stands, context or none (R463). -/
theorem exec_init_of_valid {d : BitVec 16} {s : State} (herr : s.err = false) (hd : validDigestBits d = true) :
    exec (.init d) s = .next (complete (initEffect d s)) :=
  exec_effect herr (by simp [checksOf, hd])

/-- The initial state is the byte 8c and zeros (R464). -/
theorem byteAt_initialState (c : Nat) {k : Nat} (h : k < 128) :
    byteAt (initialState c) k = if k = 0 then BitVec.ofNat 8 (8 * c) else 0 := by
  rw [byteAt_lt _ h]
  simp [initialState]

/-- CONFIG holds a valid size in full (10_state.md R111). -/
theorem contextOf_dbits {d : BitVec 16} (hmax : d.toNat ≤ 512) : (contextOf d).dbits.toNat = d.toNat := by
  have hdbits : (contextOf d).dbits = d.setWidth 10 := by
    unfold contextOf
    split <;> rfl
  rw [hdbits, BitVec.toNat_setWidth, Nat.mod_eq_of_lt (by omega)]

/-- CONFIG's word in a context (10_state.md R111). -/
theorem toNat_configWord_contextOf {d : BitVec 16} (hmax : d.toNat ≤ 512) :
    (configWord (contextOf d)).toNat =
      d.toNat + 2 ^ 16 * (contextOf d).rounds.toNat + 2 ^ 24 * (contextOf d).cols.toNat := by
  have hword := (statusAndConfigLayout (loadContext (contextOf d) State.reset)).2
  rwa [loadContext_config, contextOf_dbits hmax] at hword

/-- Settles O26: the fields of `initEffect`, and the two contexts as numbers. -/
theorem initLoadsContextAndState : Obligations.InitLoadsContextAndState := by
  intro d s herr hwhole hmin hmax
  have hword := toNat_configWord_contextOf hmax
  refine ⟨_, exec_init_of_valid herr (validDigestBits_iff.2 ⟨hwhole, hmin, hmax⟩), rfl, contextOf_dbits hmax,
    fun hsmall => ?_, fun hlarge => ?_, ?_, fun k hpos hk => ?_, fun _ => byteAt_replicate_zero⟩
  · have hrounds : (contextOf d).rounds.toNat = 10 := congrArg (·.rounds.toNat) (contextOf_of_le hsmall)
    have hcols : (contextOf d).cols.toNat = 8 := congrArg (·.cols.toNat) (contextOf_of_le hsmall)
    exact ⟨hrounds, hcols, hword.trans (by omega)⟩
  · have hrounds : (contextOf d).rounds.toNat = 14 := congrArg (·.rounds.toNat) (contextOf_of_gt hlarge)
    have hcols : (contextOf d).cols.toNat = 16 := congrArg (·.cols.toNat) (contextOf_of_gt hlarge)
    exact ⟨hrounds, hcols, hword.trans (by omega)⟩
  · change (byteAt (initialState (contextOf d).cols.toNat) 0).toNat = 8 * (contextOf d).cols.toNat
    rw [byteAt_initialState _ (by decide), if_pos rfl, contextOf]
    split <;> rfl
  · exact (byteAt_initialState _ hk).trans (if_neg (by omega))

/-! ## ABSORB (43_hash_control.md R465) -/

/-- MLEN grows without wrapping when the check of LENGTH_OVERFLOW passes (60_exceptions.md R602). -/
theorem toNat_mlen_add {v : Word64} {bits : Nat} (h : v.toNat + bits ≤ 2 ^ 64 - 1) :
    (v + BitVec.ofNat 64 bits).toNat = v.toNat + bits := by
  rw [BitVec.toNat_add, BitVec.toNat_ofNat]
  omega

/-- ABSORB passes its checks exactly in a context, before FIN = 1, with a length that fits (60_exceptions.md R602). -/
theorem absorb_checks_iff (s : State) :
    firstError (checksOf .absorb s) = none ↔
      s.cfg = true ∧ s.fin = false ∧ s.mlen.toNat + 8 * blockBytes s ≤ 2 ^ 64 - 1 := by
  simp only [checksOf, needsContext, notFinalized, lengthFits, firstError_cons_eq_none, firstError_nil,
    decide_eq_false_iff_not, Nat.not_lt, Bool.not_eq_eq_eq_not, Bool.not_false, and_true]

/-- ABSORB runs in a working context, before FIN = 1, while the length fits (R465). -/
theorem exec_absorb_of_working {s : State} (hs : Working s) (hfin : s.fin = false)
    (hlen : s.mlen.toNat + 8 * blockBytes s ≤ 2 ^ 64 - 1) :
    exec .absorb s = .next (complete (absorbEffect s)) := by
  obtain ⟨herr, hcfg, _⟩ := hs
  exact exec_effect herr ((absorb_checks_iff s).2 ⟨hcfg, hfin, hlen⟩)

/-- Settles O27: both commands write the same T(S, M), and MLEN does not wrap. -/
theorem absorbCompressesAndCounts : Obligations.AbsorbCompressesAndCounts := by
  intro s hs hfin hlen
  have hbits : 8 * blockBytes s = 64 * colsOf s := by
    unfold blockBytes
    omega
  rw [← hbits] at hlen ⊢
  exact ⟨_, _, exec_absorb_of_working hs hfin hlen, exec_of_working hs rfl, rfl, toNat_mlen_add hlen⟩

/-! ## The padding suffix (43_hash_control.md R466) -/

/-- The tail, the marker, z zeros, 8 length bytes and 4 zeros. -/
theorem length_padSuffix (tail : List Byte) (N : Word64) (B : Nat) :
    (padSuffix tail N B).length = tail.length + 13 + padZeros tail.length B := by
  simp only [padSuffix, List.length_append, List.length_replicate, List.length_map, List.length_range, List.length_cons,
    List.length_nil]
  omega

/-- z completes the block, or the next one when the tail leaves fewer than 13 bytes free (90_conflicts.md C3). -/
theorem padZeros_fills {n B : Nat} (hB : B = 64 ∨ B = 128) (hn : n < B) :
    n + 13 + padZeros n B = if n ≤ B - 13 then B else 2 * B := by
  unfold padZeros
  rcases hB with rfl | rfl <;> split <;> omega

/-- An index into the middle of three lists. -/
theorem getElem?_middle {α : Type} {A P : List α} (C : List α) {n k : Nat} (hn : A.length = n) (hk : k < P.length) :
    (A ++ P ++ C)[n + k]? = P[k]? := by
  subst hn
  rw [List.append_assoc, List.getElem?_append_right (Nat.le_add_right _ _), Nat.add_sub_cancel_left,
    List.getElem?_append_left hk]

section PadSuffix
variable (tail : List Byte) (N : Word64) (B : Nat)

theorem padSuffix_marker : (padSuffix tail N B)[tail.length]? = some 0x80 := by
  simp [padSuffix]

theorem padSuffix_zero {j : Nat} (hj : j < padZeros tail.length B) :
    (padSuffix tail N B)[tail.length + 1 + j]? = some 0 := by
  rw [padSuffix, List.append_assoc _ _ [0, 0, 0, 0], getElem?_middle _ (by simp) (by simpa using hj),
    List.getElem?_replicate_of_lt hj]

theorem padSuffix_lengthByte {k : Nat} (hk : k < 8) :
    (padSuffix tail N B)[tail.length + 1 + padZeros tail.length B + k]? = some (le64byte N k) := by
  rw [padSuffix, getElem?_middle _ (by simp; omega) (by simpa using hk)]
  simp [hk]

theorem padSuffix_lastZero {k : Nat} (hk : k < 4) :
    (padSuffix tail N B)[tail.length + 9 + padZeros tail.length B + k]? = some 0 := by
  rw [padSuffix, ← List.append_nil (_ ++ [0, 0, 0, 0]), getElem?_middle _ (by simp; omega) hk]
  exact List.getElem?_replicate_of_lt (n := 4) hk

end PadSuffix

/-- Settles O28: the five parts by their positions, and z by the tail's length. -/
theorem paddingFillsWholeBlocks : Obligations.PaddingFillsWholeBlocks := by
  intro tail N B hB hn
  rw [length_padSuffix]
  refine ⟨padZeros_fills hB hn, ?_, padSuffix_marker tail N B, fun k hlo hhi => ?_, fun k hk => ?_, fun k hk => ?_⟩
  · simp [padSuffix]
  · obtain ⟨j, rfl⟩ := Nat.exists_eq_add_of_lt hlo
    have hj : j < padZeros tail.length B := by omega
    rw [Nat.add_right_comm]
    exact padSuffix_zero tail N B hj
  · have hpos : tail.length + 13 + padZeros tail.length B - 12 = tail.length + 1 + padZeros tail.length B := by omega
    rw [hpos]
    exact padSuffix_lengthByte tail N B hk
  · have hpos : tail.length + 13 + padZeros tail.length B - 4 = tail.length + 9 + padZeros tail.length B := by omega
    rw [hpos]
    exact padSuffix_lastZero tail N B hk

end Sys2Proof.Machine

namespace Sys2Proof.Machine

open Sys2Proof.Safety

/-! ## Blocks of a byte string, and T over them (43_hash_control.md R467, R468) -/

theorem length_blocksOf (U : List Byte) (B : Nat) : (blocksOf U B).length = U.length / B := by
  simp [blocksOf]

/-- T over the blocks of U, one after the other (R467). -/
theorem compressAll_eq_foldl (n c B : Nat) (U : List Byte) (X : Buf) :
    compressAll n c B U X = (blocksOf U B).foldl (compress n c) X := by
  rw [blocksOf, List.foldl_map]
  rfl

section Blocks
variable {V : List Byte} {B q : Nat} (hB : 0 < B) (hV : V.length = q * B) (W : List Byte)
include hV

/-- A block of V is the same block of V ++ W. -/
theorem blockOf_append_left {j : Nat} (hj : j < q) : blockOf (V ++ W) B j = blockOf V B j := by
  unfold blockOf
  congr 1
  funext k
  have hle : (j + 1) * B ≤ q * B := Nat.mul_le_mul_right B hj
  split
  · exact List.getD_append _ _ _ _ (by rw [hV]; linarith)
  · rfl

/-- The blocks of V ++ W past the q blocks of V are those of W. -/
theorem blockOf_append_right (j : Nat) : blockOf (V ++ W) B (q + j) = blockOf W B j := by
  unfold blockOf
  congr 1
  funext k
  have hpos : (q + j) * B + k = V.length + (j * B + k) := by rw [hV]; ring
  rw [hpos, List.getD_append_right _ _ _ _ (Nat.le_add_right _ _), Nat.add_sub_cancel_left]

include hB

theorem blocksOf_append : blocksOf (V ++ W) B = blocksOf V B ++ blocksOf W B := by
  have hlen : (V ++ W).length / B = V.length / B + W.length / B := by
    rw [List.length_append, hV, Nat.mul_comm, Nat.mul_add_div hB, Nat.mul_div_cancel_left _ hB]
  have hq : V.length / B = q := by rw [hV, Nat.mul_div_cancel _ hB]
  rw [blocksOf, hlen, hq, List.range_add, List.map_append, List.map_map, blocksOf, blocksOf, hq]
  exact congrArg₂ (· ++ ·)
    (List.map_congr_left fun j hj => blockOf_append_left hV W (List.mem_range.1 hj))
    (List.map_congr_left fun j _ => blockOf_append_right hV W j)

/-- T over V ++ W is T over V and then T over W. -/
theorem compressAll_append (n c : Nat) (X : Buf) :
    compressAll n c B (V ++ W) X = compressAll n c B W (compressAll n c B V X) := by
  simp only [compressAll_eq_foldl, blocksOf_append hB hV W, List.foldl_append]

omit hB

/-- Whole blocks in front of a message leave z as it is. -/
theorem padSuffix_append (N : Word64) : padSuffix (V ++ W) N B = V ++ padSuffix W N B := by
  have hz : padZeros (V ++ W).length B = padZeros W.length B := by
    have hneg : -((V ++ W).length + 13 : Int) = -(W.length + 13) + (-q) * B := by
      rw [List.length_append, hV]
      push_cast
      ring
    rw [padZeros, hneg, Int.add_mul_emod_self_right, padZeros]
  simp only [padSuffix, hz, List.append_assoc]

end Blocks

section Message
variable {B : Nat} (hB : 0 < B) (m : List Byte)

/-- The full blocks of a message, as one string. -/
theorem length_take_fullBlocks : (m.take (m.length / B * B)).length = m.length / B * B :=
  List.length_take_of_le (Nat.div_mul_le_self _ _)

theorem length_drop_fullBlocks : (m.drop (m.length / B * B)).length = m.length % B := by
  have hdiv := Nat.div_add_mod' m.length B
  rw [List.length_drop]
  omega

include hB

/-- A message has the blocks of its full-block part: the tail is no block. -/
theorem blocksOf_take_fullBlocks : blocksOf (m.take (m.length / B * B)) B = blocksOf m B := by
  have htail : blocksOf (m.drop (m.length / B * B)) B = [] := by
    rw [blocksOf, length_drop_fullBlocks, Nat.div_eq_of_lt (Nat.mod_lt _ hB)]
    rfl
  have hsplit := blocksOf_append hB (length_take_fullBlocks m) (m.drop (m.length / B * B))
  rw [List.take_append_drop, htail, List.append_nil] at hsplit
  exact hsplit.symm

/-- T over a padded message is T over its full blocks and then T over the padding suffix of its tail (R468). -/
theorem compressAll_padSuffix (n c : Nat) (N : Word64) (X : Buf) :
    compressAll n c B (padSuffix m N B) X =
      compressAll n c B (padSuffix (m.drop (m.length / B * B)) N B) (compressAll n c B m X) := by
  have hlen := length_take_fullBlocks (B := B) m
  calc compressAll n c B (padSuffix m N B) X
    _ = compressAll n c B (m.take (m.length / B * B) ++ padSuffix (m.drop (m.length / B * B)) N B) X := by
      rw [← padSuffix_append hlen, List.take_append_drop]
    _ = compressAll n c B (padSuffix (m.drop (m.length / B * B)) N B)
          (compressAll n c B (m.take (m.length / B * B)) X) := compressAll_append hB hlen _ n c X
    _ = _ := by
      rw [compressAll_eq_foldl n c B (m.take _), blocksOf_take_fullBlocks hB, ← compressAll_eq_foldl]

end Message

/-- c, n and d are read off CONFIG (10_state.md R111). -/
theorem geometry_of_config {s t : State} (h : t.config = s.config) :
    colsOf t = colsOf s ∧ roundsOf t = roundsOf s ∧ digestBytes t = digestBytes s :=
  ⟨congrArg (·.cols.toNat) h, congrArg (·.rounds.toNat) h, congrArg (·.dbits.toNat / 8) h⟩

/-- A command that compresses BLOCK into STATE, run on each block in turn, leaves T over the blocks. `P k` is what it
needs of a state to run on k more blocks. -/
theorem runLoaded_compress {i : Instr} {P : Nat → State → Prop}
    (hstep : ∀ k M s, P (k + 1) s → ∃ t, exec i (setBlock M s) = .next t ∧ P k t ∧ t.config = s.config ∧
      t.state = compress (roundsOf s) (colsOf s) s.state M)
    (Ms : List Buf) {s : State} (hs : P Ms.length s) :
    ∃ t, runLoaded i Ms s = .next t ∧ P 0 t ∧ t.config = s.config ∧
      t.state = Ms.foldl (compress (roundsOf s) (colsOf s)) s.state := by
  induction Ms generalizing s with
  | nil => exact ⟨s, rfl, hs, rfl, rfl⟩
  | cons M Ms ih =>
    obtain ⟨t, ht, hPt, htconfig, htstate⟩ := hstep Ms.length M s hs
    obtain ⟨u, hu, hPu, huconfig, hustate⟩ := ih hPt
    refine ⟨u, ?_, hPu, huconfig.trans htconfig, ?_⟩
    · rw [runLoaded, ht]
      exact hu
    · obtain ⟨hcols, hrounds, _⟩ := geometry_of_config htconfig
      rw [hustate, htstate, hcols, hrounds, List.foldl_cons]

/-! ## FINAL (43_hash_control.md R467) -/

/-- FINAL n runs in a working context, before FIN = 1, on a tail shorter than a block, while the length fits. -/
theorem exec_final_of_working {n : Byte} {s : State} (hs : Working s) (hfin : s.fin = false)
    (hn : n.toNat < 8 * colsOf s) (hlen : s.mlen.toNat + 8 * n.toNat ≤ 2 ^ 64 - 1) :
    exec (.final n) s = .next (complete (finalEffect n s)) := by
  obtain ⟨herr, hcfg, _⟩ := hs
  exact exec_effect herr ((final_checks_iff s).2 ⟨hcfg, hfin, hn, hlen⟩)

/-- What FINAL can change: FIN, MLEN, STATE and DIGEST, whatever it writes there. -/
theorem finalWrites_frame {s t : State} {v : Word64} {X : Buf} {D : Vector Byte 64}
    (h : t = complete (setFin (setMlen v (setChain X (setDigest D s))))) :
    t = { s with fin := true, pending := none, mlen := t.mlen, state := t.state, digest := t.digest } := by
  subst h
  rfl

/-- Settles O30: the fields of `finalEffect`; the truncation ends in zeros. -/
theorem finalClosesComputation : Obligations.FinalClosesComputation := by
  intro n s hs hfin hn hlen
  refine ⟨_, exec_final_of_working hs hfin hn hlen, finalWrites_frame rfl, toNat_mlen_add hlen,
    fun _ => byteAt_replicate_zero, fun _ => byteAt_truncDigest_past (finalState n s)⟩

/-- Arrays that agree on their first n bytes have the same first n bytes, whatever n is. -/
theorem firstBytes_congr {k : Nat} {X Y : Vector Byte k} {n : Nat} (h : ∀ j, j < n → byteAt X j = byteAt Y j) :
    firstBytes X n = firstBytes Y n :=
  List.map_congr_left fun j hj => h j (List.mem_range.1 hj)

/-- F depends on BLOCK through the tail alone. -/
theorem finalState_setBlock {n : Byte} {s : State} {M : Buf} (h : firstBytes M n.toNat = firstBytes s.block n.toNat) :
    finalState n (setBlock M s) = finalState n s := by
  unfold finalState
  rw [setBlock_block, h]
  rfl

/-- Settles O31: no check reads BLOCK, and the effect reads its first n bytes. -/
theorem finalReadsOnlyTheTail : Obligations.FinalReadsOnlyTheTail := by
  intro n s M hM
  refine exec_related (R := fun t u => u = { t with block := M }) (u := setBlock M s) rfl rfl rfl (fun _ => rfl)
    fun _ => ?_
  change complete (finalEffect n (setBlock M s)) = setBlock M (complete (finalEffect n s))
  unfold finalEffect
  rw [finalState_setBlock (firstBytes_congr hM)]
  rfl

/-- OUTT and then TRUNC leave in DIGEST the trailing bytes of the output transform. -/
theorem runCommands_outt_trunc {s : State} (hs : Working s) :
    runCommands [.outt, .trunc] s =
      .next (complete (setDigest
        (truncDigest (colsOf s) (digestBytes s) (outputTransform (roundsOf s) (colsOf s) s.state))
        (complete (setChain (outputTransform (roundsOf s) (colsOf s) s.state) s)))) := by
  rw [runCommands_cons_of_working _ hs rfl, runCommands,
    exec_trunc_of_working (working_complete (working_setChain _ hs))]
  rfl

/-- Settles O29: TCOMP over the padding blocks leaves the state that FINAL's output transform starts from. -/
theorem finalDigestComesFromStages : Obligations.FinalDigestComesFromStages := by
  intro n s hs hfin hn hlen
  obtain ⟨u, hu, hworking, hconfig, hstate⟩ := runLoaded_compress (i := .tcomp) (P := fun _ => Working)
    (fun _ M t ht => ⟨_, exec_of_working (s := setBlock M t) ht rfl, ht, rfl, rfl⟩)
    (blocksOf (padSuffix (firstBytes s.block n.toNat) (finalLength n s) (8 * colsOf s)) (8 * colsOf s)) hs
  refine ⟨_, u, _, exec_final_of_working hs hfin hn hlen, hu, runCommands_outt_trunc hworking, ?_⟩
  rw [← compressAll_eq_foldl] at hstate
  obtain ⟨hcols, hrounds, hdigest⟩ := geometry_of_config hconfig
  rw [complete_digest, complete_digest, setDigest_digest, hcols, hrounds, hdigest, hstate]
  rfl

/-! ## INIT, ABSORB for each full block, FINAL of the tail (43_hash_control.md R468) -/

/-- A block has 64 or 128 bytes (10_state.md R111). -/
theorem blockBytes_pos_of_working {s : State} (hs : Working s) : 0 < blockBytes s := by
  have hcontext := context_cases_of_working hs
  unfold blockBytes
  omega

theorem blockBytes_le_of_working {s : State} (hs : Working s) : blockBytes s ≤ 128 := by
  have hcontext := context_cases_of_working hs
  unfold blockBytes
  omega

/-- Ready to absorb k more blocks, which bring the message to L bits. -/
structure ReadyToAbsorb (L k : Nat) (s : State) : Prop where
  working : Working s
  notFinal : s.fin = false
  length : s.mlen.toNat + 8 * (blockBytes s * k) = L

/-- ABSORB of one block leaves T(S, M) and one block less to absorb. -/
theorem exec_absorb_of_ready {L : Nat} (hL : L ≤ 2 ^ 64 - 1) (k : Nat) (M : Buf) (s : State)
    (hs : ReadyToAbsorb L (k + 1) s) :
    ∃ t, exec .absorb (setBlock M s) = .next t ∧ ReadyToAbsorb L k t ∧ t.config = s.config ∧
      t.state = compress (roundsOf s) (colsOf s) s.state M := by
  obtain ⟨hworking, hfin, hlen⟩ := hs
  rw [Nat.mul_succ] at hlen
  have hfits : s.mlen.toNat + 8 * blockBytes s ≤ 2 ^ 64 - 1 := by omega
  refine ⟨_, exec_absorb_of_working (s := setBlock M s) hworking hfin hfits, ⟨hworking, hfin, ?_⟩, rfl, rfl⟩
  change (s.mlen + BitVec.ofNat 64 (8 * blockBytes s)).toNat + 8 * (blockBytes s * k) = L
  rw [toNat_mlen_add hfits]
  omega

/-- A byte string read off an array. -/
theorem firstBytes_eq_of_getElem? {k : Nat} {X : Vector Byte k} {l : List Byte}
    (h : ∀ j, j < l.length → some (byteAt X j) = l[j]?) : firstBytes X l.length = l := by
  refine List.ext_getElem (by simp [firstBytes]) fun j _ hj => ?_
  have hbyte := h j hj
  rw [List.getElem?_eq_getElem hj] at hbyte
  simpa [firstBytes] using hbyte

/-- The digest in DIGEST's layout, read back (42_permutations_compression.md R449, R450). -/
theorem firstBytes_truncDigest {c d : Nat} (hd : d ≤ 8 * c) (hmax : d ≤ 64) (F : Buf) :
    firstBytes (truncDigest c d F) d = (List.range d).map fun k => byteAt F (8 * c - d + k) := by
  refine List.map_congr_left fun k hk => ?_
  have hlt := List.mem_range.1 hk
  rw [byteAt_truncDigest hd F (by omega), if_pos hlt]

/-- hash(m, d) in DIGEST's layout, read back (R468). -/
theorem firstBytes_truncDigest_hashState (m : List Byte) {d : BitVec 16} (hd : validDigestBits d = true) :
    firstBytes (truncDigest (contextOf d).cols.toNat (d.toNat / 8)
      (hashState (contextOf d).rounds.toNat (contextOf d).cols.toNat m)) (d.toNat / 8) = hashOf m d := by
  obtain ⟨_, _, hmax⟩ := validDigestBits_iff.1 hd
  exact firstBytes_truncDigest (digest_fits_context hd) (by omega) _

/-- The core has taken in the full blocks of m, from the initial state of its context. -/
structure HasAbsorbed (m : List Byte) (s : State) : Prop where
  working : Working s
  notFinal : s.fin = false
  length : s.mlen.toNat = 8 * (blockBytes s * (m.length / blockBytes s))
  state : s.state = compressAll (roundsOf s) (colsOf s) (blockBytes s) m (initialState (colsOf s))

/-- From the initial state of a context, ABSORB for every full block of m is accepted and takes the full blocks in. -/
theorem runLoaded_absorb_hasAbsorbed {m : List Byte} {s : State} (hs : Working s) (hfin : s.fin = false)
    (hzero : s.mlen = 0) (hinit : s.state = initialState (colsOf s)) (hlen : 8 * m.length ≤ 2 ^ 64 - 1) :
    ∃ t, runLoaded .absorb (blocksOf m (blockBytes s)) s = .next t ∧ HasAbsorbed m t ∧ t.config = s.config := by
  have hready :
      ReadyToAbsorb (8 * (blockBytes s * (m.length / blockBytes s))) (blocksOf m (blockBytes s)).length s := by
    rw [length_blocksOf]
    exact ⟨hs, hfin, by rw [hzero]; exact Nat.zero_add _⟩
  have hfits := Nat.mul_div_le m.length (blockBytes s)
  obtain ⟨t, ht, ⟨hworking, htfin, hmlen⟩, hconfig, hstate⟩ :=
    runLoaded_compress (exec_absorb_of_ready (by omega)) (blocksOf m (blockBytes s)) hready
  obtain ⟨hcols, hrounds, _⟩ := geometry_of_config hconfig
  have hbytes : blockBytes t = blockBytes s := congrArg (8 * ·) hcols
  refine ⟨t, ht, ⟨hworking, htfin, ?_, ?_⟩, hconfig⟩
  · rw [hbytes]
    exact hmlen
  · rw [hstate, hbytes, hcols, hrounds, compressAll_eq_foldl, hinit]

section HasAbsorbed
variable {m : List Byte} {s : State} {M : Buf} {n : Byte} (h : HasAbsorbed m s) (hlen : 8 * m.length ≤ 2 ^ 64 - 1)
  (hn : n.toNat = m.length % blockBytes s)
include h hn

/-- The full blocks and the tail are the message. -/
theorem mlen_add_tail : s.mlen.toNat + 8 * n.toNat = 8 * m.length := by
  have hdiv := Nat.div_add_mod m.length (blockBytes s)
  have hmlen := h.length
  omega

include hlen

/-- FINAL of the tail finalizes as the one-call function does. -/
theorem finalState_eq_hashState
    (htail : ∀ j, j < n.toNat → some (byteAt M j) = m[m.length / blockBytes s * blockBytes s + j]?) :
    finalState n (setBlock M s) = hashState (roundsOf s) (colsOf s) m := by
  have hB := blockBytes_pos_of_working h.working
  have hsum := mlen_add_tail h hn
  have hbits : finalLength n (setBlock M s) = BitVec.ofNat 64 (8 * m.length) := by
    apply BitVec.eq_of_toNat_eq
    rw [finalLength, setBlock_mlen, toNat_mlen_add (by omega), BitVec.toNat_ofNat, hsum]
    omega
  have hbytes : firstBytes M n.toNat = m.drop (m.length / blockBytes s * blockBytes s) := by
    rw [← length_drop_fullBlocks] at hn
    rw [hn] at htail ⊢
    exact firstBytes_eq_of_getElem? fun j hj => by rw [htail j hj, List.getElem?_drop]
  unfold finalState hashState
  rw [hbits, setBlock_block, hbytes, setBlock_state, h.state]
  exact congrArg (outputTransform (roundsOf s) (colsOf s)) (compressAll_padSuffix hB m _ _ _ _).symm

/-- FINAL of the tail is accepted. -/
theorem exec_final_of_hasAbsorbed :
    exec (.final n) (setBlock M s) = .next (complete (finalEffect n (setBlock M s))) := by
  have hsum := mlen_add_tail h hn
  have hlt : n.toNat < blockBytes s := hn.trans_lt (Nat.mod_lt _ (blockBytes_pos_of_working h.working))
  exact exec_final_of_working (s := setBlock M s) h.working h.notFinal hlt (hsum.trans_le hlen)

end HasAbsorbed

/-- A tail is shorter than 128 bytes, so FINAL's operand holds its length. -/
theorem toNat_tailLength {s : State} (hs : Working s) (k : Nat) :
    (BitVec.ofNat 8 (k % blockBytes s)).toNat = k % blockBytes s := by
  have hlt := Nat.mod_lt k (blockBytes_pos_of_working hs)
  have hmax := blockBytes_le_of_working hs
  rw [BitVec.toNat_ofNat, Nat.mod_eq_of_lt (by omega)]

/-- Settles O33: the loop of ABSORB is T over the full blocks, and FINAL goes on with the padding suffix of the tail. -/
theorem commandsComputeTheHash : Obligations.CommandsComputeTheHash := by
  intro m d s M herr hd hlen htail
  have hworking : Working (complete (initEffect d s)) := ⟨herr, rfl, .inr ⟨rfl, d, hd, rfl⟩⟩
  obtain ⟨b, hb, habs, hconfig⟩ := runLoaded_absorb_hasAbsorbed hworking rfl rfl rfl hlen
  obtain ⟨hcols, hrounds, hdigest⟩ := geometry_of_config hconfig
  have hbytes : blockBytes b = 8 * (contextOf d).cols.toNat := congrArg (8 * ·) hcols
  have hn := toNat_tailLength habs.working m.length
  rw [← hbytes] at htail ⊢
  have hberr : b.err = false := habs.working.1
  refine ⟨_, b, _, exec_init_of_valid herr hd, by rwa [hbytes], exec_final_of_hasAbsorbed habs hlen hn, herr, hberr,
    hberr, rfl, ?_⟩
  change firstBytes (truncDigest (colsOf b) (digestBytes b) (finalState _ (setBlock M b))) _ = _
  have hdbits : digestBytes b = d.toNat / 8 :=
    hdigest.trans (congrArg (· / 8) (contextOf_dbits (validDigestBits_iff.1 hd).2.2))
  rw [finalState_eq_hashState habs hlen hn (by rwa [hn]), hdbits, hcols, hrounds]
  exact firstBytes_truncDigest_hashState m hd

end Sys2Proof.Machine

namespace Sys2Proof.Machine

open Sys2Proof.Safety

/-! ## The completion step of a latched word (60_exceptions.md R601-R603) -/

/-- A word that completes with no effect: ERR = 1 and it is neither SRESET nor CLRERR (60_exceptions.md R603). -/
def Ignored (w : Word) (s : State) : Prop := s.err = true ∧ w ≠ 0x01000000 ∧ w ≠ 0x02000000

section CompletionStep
variable {w : Word} {s : State}

theorem rejectWord_next (e : DecodeError) (s : State) : ∃ t, rejectWord e s = .next t := by
  unfold rejectWord
  split <;> exact ⟨_, rfl⟩

/-- The completion step of every word answers a next state. -/
theorem runWord_next (w : Word) (s : State) : ∃ t, runWord w s = .next t := by
  cases hd : decode w with
  | ok i => exact runWord_ok hd s ▸ exec_next i s
  | error e => exact runWord_error hd s ▸ rejectWord_next e s

/-- A word that is ignored is rejected by no check and takes no effect (60_exceptions.md R603). -/
theorem runWord_of_ignored (h : Ignored w s) : runWord w s = .next (complete s) := by
  obtain ⟨herr, hsreset, hclrerr⟩ := h
  obtain ⟨t, ht⟩ := runWord_next w s
  rcases runWord_inv ht with ⟨_, rfl⟩ | ⟨hfree, _⟩ | ⟨i, hw, hfree | rfl | rfl, _⟩
  · exact ht
  · simp [herr] at hfree
  · simp [herr] at hfree
  · exact absurd hw hsreset
  · exact absurd hw hclrerr

/-- While ERR = 1 the words that are not ignored are those of SRESET and CLRERR (60_exceptions.md R603). -/
theorem exists_unblocked_of_not_ignored (herr : s.err = true) (h : ¬Ignored w s) :
    ∃ i, (i = .sreset ∨ i = .clrerr) ∧ w = encode i := by
  by_contra hnone
  exact h ⟨herr, fun hw => hnone ⟨.sreset, .inl rfl, hw⟩, fun hw => hnone ⟨.clrerr, .inr rfl, hw⟩⟩

/-- No command's effect raises an error, and SRESET's and CLRERR's end one (10_state.md R109). -/
theorem effectOf_err_false {i : Instr} (h : s.err = false ∨ i = .sreset ∨ i = .clrerr) :
    (effectOf i s).err = false := by
  rcases h with hfree | rfl | rfl
  · rcases effectOf_errorFields_cases i s with rfl | rfl | ⟨herr, _⟩
    · rfl
    · rfl
    · exact herr.trans hfree
  · rfl
  · rfl

/-- The check order finds nothing against a command whose own checks pass. -/
theorem checkOrder_encode_eq_zero {i : Instr} (h : firstError (checksOf i s) = none) :
    checkOrder (encode i) s = 0 := by
  rw [checkOrder_encode, firstCode, h]
  rfl

/-- A word that is not ignored is rejected with the code of the check order, or no check applies and the command it
decodes to takes its effect, with no error left (60_exceptions.md R602). -/
theorem runWord_of_not_ignored (h : ¬Ignored w s) :
    (∃ e, errorNumber e = checkOrder w s ∧ runWord w s = .next (reject e (opField w) s)) ∨
    (checkOrder w s = 0 ∧ ∃ i, decode w = .ok i ∧ (effectOf i s).err = false ∧
      runWord w s = .next (complete (effectOf i s))) := by
  cases herr : s.err with
  | true =>
    obtain ⟨i, hi, rfl⟩ := exists_unblocked_of_not_ignored herr h
    have hc : firstError (checksOf i s) = none := by rcases hi with rfl | rfl <;> rfl
    exact .inr ⟨checkOrder_encode_eq_zero hc, i, decode_encode i, effectOf_err_false (.inr hi),
      (runWord_ok (decode_encode i) s).trans (exec_unblocked hi s)⟩
  | false =>
    obtain ⟨t, ht⟩ := runWord_next w s
    rcases runWord_inv ht with ⟨hblocked, _⟩ | ⟨_, e, he, rfl⟩ | ⟨i, rfl, hi, hc, rfl⟩
    · simp [herr] at hblocked
    · exact .inl ⟨e, he, ht⟩
    · exact .inr ⟨checkOrder_encode_eq_zero hc, i, decode_encode i, effectOf_err_false hi, ht⟩

/-- The error action on a latched word leaves the state before the latch, but for the error fields
(60_exceptions.md R601). -/
theorem reject_loadWord {e : ErrorCode} (he : errorNumber e = checkOrder w s) :
    reject e (opField w) (loadWord w s) =
      { s with err := true, errcode := checkOrder w s, errop := w.extractLsb' 24 8, pending := none } := by
  rw [← he]
  rfl

theorem errorNumber_ne_zero (e : ErrorCode) : errorNumber e ≠ 0 := by
  cases e <;> decide

/-- A latched command completes as itself, in the state in which it is latched. -/
theorem step_loadWord_encode (i : Instr) (s : State) :
    step (loadWord (encode i) s) = exec i (loadWord (encode i) s) := by
  rw [step_loadWord, runWord_ok (decode_encode i)]

/-- Placing a command by its bits latches its word (log 1). -/
theorem withFetchWord_encode (i : Instr) (s : State) :
    s.withFetchWord 32 (encode i).toNat = loadWord (encode i) s := by
  rw [State.withFetchWord, Nat.mod_eq_of_lt (encode i).isLt, BitVec.ofNat_toNat, BitVec.setWidth_eq]

end CompletionStep

/-- Settles O35: the word is ignored, rejected or performed, and which of the three does not depend on the latch. -/
theorem executionFollowsCheckOrder : Obligations.ExecutionFollowsCheckOrder := by
  intro w s
  rw [step_loadWord]
  refine ⟨runWord_of_ignored (s := loadWord w s), fun hw => ?_⟩
  rcases runWord_of_not_ignored (s := loadWord w s) hw with ⟨e, he, ht⟩ | ⟨hzero, i, hd, herr, ht⟩
  · exact ⟨fun _ => ht.trans (congrArg _ (reject_loadWord he)),
      fun hzero => absurd (he.trans hzero) (errorNumber_ne_zero e)⟩
  · exact ⟨fun hne => absurd hzero hne,
      fun _ => ⟨i, _, hd, ht, (runWord_ok hd _).symm.trans ht, herr, rfl⟩⟩

/-- Settles O36: with ERR = 0 no word is ignored, and one that takes its effect leaves ERR = 0. -/
theorem rejectionIsTheErrorAction : Obligations.RejectionIsTheErrorAction := by
  intro w s t hfree hs ht
  rw [step_loadWord] at hs
  have hw : ¬Ignored w (loadWord w s) := fun h => Bool.false_ne_true (hfree.symm.trans h.1)
  rcases runWord_of_not_ignored hw with ⟨e, he, hr⟩ | ⟨_, i, _, herr, hr⟩
  · obtain rfl : reject e (opField w) (loadWord w s) = t := by simpa [hr] using hs
    exact ⟨reject_loadWord he, errorNumber_range e⟩
  · obtain rfl : complete (effectOf i (loadWord w s)) = t := by simpa [hr] using hs
    exact absurd (herr.symm.trans ht) Bool.false_ne_true

/-- Settles O37: every other word is ignored, and neither SRESET nor CLRERR reads the latch. -/
theorem errorBlocksAllButTwoWords : Obligations.ErrorBlocksAllButTwoWords := by
  refine fun s herr => ⟨fun w hsreset hclrerr => ?_, step_loadWord_encode .sreset s, step_loadWord_encode .clrerr s⟩
  exact (step_loadWord w s).trans (runWord_of_ignored ⟨herr, hsreset, hclrerr⟩)

/-- Settles O52: a completion step runs the word, and the word decodes to the command. -/
theorem stepRunsTheDecodedCommand : Obligations.StepRunsTheDecodedCommand := by
  refine ⟨fun s p i hp hl hd => (step_complete hp hl).trans (runWord_ok hd s), fun s i => ?_⟩
  rw [withFetchWord_encode]
  exact step_loadWord_encode i s

/-- Settles O53: the host's turn and the completion step of any word each have a next state. -/
theorem stepAlwaysHasNextState : Obligations.StepAlwaysHasNextState := by
  refine ⟨fun s => ?_, fun s hp hh => by rw [step_idle hp, hostTurn_nil hh]⟩
  rcases step_cases s with ⟨_, hs⟩ | ⟨p, _, _, hs⟩ | ⟨p, _, _, hs⟩
  · exact ⟨_, hs⟩
  · exact ⟨_, hs⟩
  · exact hs ▸ runWord_next p.word s

end Sys2Proof.Machine

namespace Sys2Proof.Machine

open Sys2Proof.Safety

/-! ## Reads while BUSY = 1 (70_reset_and_hazards.md R706) -/

/-- Bit 0 of STATUS is BUSY (10_state.md R105, R106). -/
theorem statusWord_bit_busy (s : State) : (statusWord s).getLsbD 0 = busy s := by
  rw [statusWord, BitVec.getLsbD_append]
  simp

/-- Of the pending command STATUS shows only that there is one. -/
theorem statusWord_setHost_setPending {s : State} (hb : busy s = true) (p : Pending) (rest : List HostOp) :
    statusWord (setHost rest (setPending p s)) = statusWord s := by
  have hbusy : busy (setHost rest (setPending p s)) = busy s := hb.symm
  simp [statusWord, hbusy]

/-- STATUS reads right, idle or busy (20_memory.md R202). -/
theorem hostMove_read_status {a : Addr} (hr : regAt a = some .status) (s : State) :
    hostMove (.read a) s = record (.ofRead .okay (statusWord s)) s := by
  rcases hostRead_cases a s with ⟨hr', _⟩ | ⟨r, hr', _, hne, _⟩ | ⟨r, hr', _, h⟩
  · simp [hr] at hr'
  · exact absurd (Option.some.inj (hr'.symm.trans hr)) hne
  · obtain rfl : r = .status := Option.some.inj (hr'.symm.trans hr)
    exact h

/-- Any other register read while BUSY = 1 answers a free value (log 4). -/
theorem hostMove_read_busy {a : Addr} {r : HostReg} (hr : regAt a = some r) (hne : r ≠ .status) {s : State}
    (hb : busy s = true) :
    hostMove (.read a) s = record (.ofRead .okay (Config.busyRead s.draws)) (countDraw s) := by
  rcases hostRead_cases a s with ⟨hr', _⟩ | ⟨_, _, _, _, h⟩ | ⟨r', hr', hidle | hstatus, _⟩
  · simp [hr] at hr'
  · exact h
  · simp [hb] at hidle
  · exact absurd ((Option.some.inj (hr.symm.trans hr')).trans hstatus) hne

/-- Settles O50: the step is the read, and the read is of STATUS, of another register, or of no register. -/
theorem busyReads : Obligations.BusyReads := by
  intro s p a rest hp hl hh
  have hstep := step_busy_cons hp hl hh
  have hb : busy s = true := by simp [busy, hp]
  refine ⟨fun hr => ?status, fun r hr hne => ?other, fun hr => ?unmapped⟩
  case status =>
    refine ⟨statusWord s, rfl, (statusWord_bit_busy s).trans hb, ?_⟩
    rw [hstep, hostMove_read_status hr, statusWord_setHost_setPending hb]
    rfl
  case other =>
    refine ⟨Config.busyRead s.draws, ?_⟩
    rw [hstep, hostMove_read_busy hr hne rfl]
    rfl
  case unmapped =>
    rw [hstep, hostMove_read_unmapped hr]
    rfl

/-! ## Hard reset (70_reset_and_hazards.md R700) -/

/-- Settles O54: `resetCore` forgets the pending command, and each register is its field of `State.reset`. -/
theorem hardResetFromAnyState : Obligations.HardResetFromAnyState := by
  intro s rest hleft hh
  refine ⟨?_, statusWord_resetCore State.reset, configWord_reset, rfl, rfl, rfl,
    fun _ hk => ⟨byteAt_replicate_zero hk, byteAt_replicate_zero hk⟩, fun _ => byteAt_replicate_zero⟩
  cases hp : s.pending with
  | none => exact step_idle_cons hp hh
  | some p => exact step_busy_cons hp (hleft p hp) hh

/-! ## The steps before the completion step (70_reset_and_hazards.md R704) -/

/-- t and u agree on every register but BUSY and OVR: they differ at most in the pending command, in OVR and in the
model's own three fields. -/
def SameRegisters (t u : State) : Prop :=
  ∃ p b ops l k, t = { u with pending := p, ovr := b, host := ops, trace := l, draws := k }

section SameRegisters
variable {s t u : State}

theorem SameRegisters.refl (s : State) : SameRegisters s s := ⟨_, _, _, _, _, rfl⟩

theorem SameRegisters.trans (h : SameRegisters t u) (h' : SameRegisters u s) : SameRegisters t s := by
  obtain ⟨_, _, _, _, _, rfl⟩ := h
  obtain ⟨_, _, _, _, _, rfl⟩ := h'
  exact ⟨_, _, _, _, _, rfl⟩

theorem SameRegisters.complete (h : SameRegisters t u) : SameRegisters (complete t) (complete u) := by
  obtain ⟨_, _, _, _, _, rfl⟩ := h
  exact ⟨_, _, _, _, _, rfl⟩

theorem SameRegisters.markError (e : ErrorCode) (op : Byte) (h : SameRegisters t u) :
    SameRegisters (markError e op t) (markError e op u) := by
  obtain ⟨_, _, _, _, _, rfl⟩ := h
  exact ⟨_, _, _, _, _, rfl⟩

theorem SameRegisters.err (h : SameRegisters t u) : t.err = u.err := by
  obtain ⟨_, _, _, _, _, rfl⟩ := h
  rfl

/-- With BUSY cleared in both, only OVR and the model's own fields are left to differ. -/
theorem SameRegisters.eq_of_pending (h : SameRegisters t u) (hp : t.pending = u.pending) :
    t = { u with ovr := t.ovr, host := t.host, trace := t.trace, draws := t.draws } := by
  obtain ⟨_, _, _, _, _, rfl⟩ := h
  cases hp
  rfl

end SameRegisters

/-- A read or a WAIT turn writes no register. -/
theorem ReadFrame.sameRegisters {s t : State} (h : ReadFrame s t) : SameRegisters t s := by
  obtain ⟨⟨hcfg, hfin, herr, hcode, hop, hconfig, hresult, hmlen, hdigest⟩, hblock, hstate, _, _⟩ := h
  refine ⟨t.pending, t.ovr, t.host, t.trace, t.draws, ?_⟩
  rw [← hcfg, ← hfin, ← herr, ← hcode, ← hop, ← hconfig, ← hresult, ← hmlen, ← hdigest, ← hblock, ← hstate]

/-- A move of the host while a command runs, a hard reset apart: it stores nothing, or it is a discarded write
(R705, R706). -/
theorem hostMove_busy_cases {op : HostOp} (h : op ≠ .hardReset) {s : State} (hb : busy s = true) :
    ReadFrame s (hostMove op s) ∨
    ∃ a v, op = .write a v ∧ hostMove op s = record (.ofWrite .okay) (setOvr s) := by
  rcases hostMove_cases op s with ⟨hr, _⟩ | ⟨_, hf⟩ | ⟨a, v, hop, _, hm⟩ | ⟨_, _, _, hidle, _⟩ |
    ⟨_, _, _, _, hidle, _⟩ | ⟨_, _, _, _, hidle, _⟩
  · exact absurd hr h
  · exact .inl hf
  · exact .inr ⟨a, v, hop, hm⟩
  all_goals simp [hb] at hidle

/-- No read makes a move for the host. -/
theorem hostRead_host (a : Addr) (s : State) : (hostRead a s).host = s.host := by
  rcases hostRead_cases a s with ⟨_, h⟩ | ⟨_, _, _, _, h⟩ | ⟨_, _, _, h⟩ <;> simp [h]

/-- A move while a command runs is done with, or, a WAIT, is to be made again (30_encoding.md R308). -/
theorem hostMove_host (op : HostOp) {s : State} (hb : busy s = true) :
    (hostMove op s).host = s.host ∨ (hostMove op s).host = op :: s.host := by
  cases op with
  | read a => exact .inl (hostRead_host a s)
  | write a v => exact .inl (by simp [hostMove_write_busy a v hb])
  | wait => exact .inr (by simp [hostMove, hostWait, hb])
  | idle | hardReset => exact .inl rfl

/-- t is what n steps of a running command, none of them its last, leave of s when the host makes no hard reset. -/
structure Delayed (n : Nat) (s t : State) : Prop where
  registers : SameRegisters t s
  /-- Only a write sets OVR (R705). -/
  ovr : (∀ a v, HostOp.write a v ∉ s.host.take n) → t.ovr = s.ovr
  /-- Without a host only time has passed. -/
  unmoved : s.host = [] → t = { s with pending := t.pending }
  /-- The moves to come were to come before. -/
  moves : ∀ k, t.host.take k ⊆ s.host.take (n + k)

section Delayed
variable {s t : State}

theorem delayed_zero (s : State) : Delayed 0 s s :=
  ⟨.refl s, fun _ => rfl, fun _ => rfl, fun k => by simp⟩

theorem delayed_setPending (p : Pending) (s : State) : Delayed 0 s (setPending p s) :=
  ⟨⟨_, _, _, _, _, rfl⟩, fun _ => rfl, fun _ => rfl, fun k => by simp⟩

theorem Delayed.trans {j k : Nat} {u : State} (h : Delayed j s t) (h' : Delayed k t u) : Delayed (j + k) s u where
  registers := h'.registers.trans h.registers
  ovr hw := by
    have hlater : ∀ a v, HostOp.write a v ∉ t.host.take k := fun a v hm => hw a v (h.moves k hm)
    have hnow : ∀ a v, HostOp.write a v ∉ s.host.take j := fun a v hm =>
      hw a v (List.take_subset_take_left _ (Nat.le_add_right j k) hm)
    exact (h'.ovr hlater).trans (h.ovr hnow)
  unmoved hh := by
    have ht := h.unmoved hh
    have hu := h'.unmoved (by rw [ht]; exact hh)
    rw [hu, ht]
  moves m := by
    rw [Nat.add_assoc]
    exact List.Subset.trans (h'.moves m) (h.moves (k + m))

/-- A host that made its next move, or is to make it again, has no new move to come. -/
theorem take_subset_of_moved {op : HostOp} {rest ops : List HostOp} (h : ops = rest ∨ ops = op :: rest) (k : Nat) :
    ops.take k ⊆ (op :: rest).take (1 + k) := by
  rw [Nat.add_comm]
  rcases h with rfl | rfl
  · exact List.subset_cons_self op (ops.take k)
  · exact List.take_subset_take_left _ (Nat.le_succ k)

/-- The host's turn while a command runs, its next move no hard reset: the command stays pending. -/
theorem hostTurn_delayed (hb : busy s = true) (hreset : HostOp.hardReset ∉ s.host.take 1) :
    (hostTurn s).pending = s.pending ∧ Delayed 1 s (hostTurn s) := by
  cases hh : s.host with
  | nil =>
    rw [hostTurn_nil hh]
    exact ⟨rfl, .refl s, fun _ => rfl, fun _ => rfl, by simp [hh]⟩
  | cons op rest =>
    have hop : op ≠ .hardReset := by rintro rfl; simp [hh] at hreset
    have hb' : busy (setHost rest s) = true := hb
    have hmoves : ∀ k, (hostMove op (setHost rest s)).host.take k ⊆ s.host.take (1 + k) :=
      hh ▸ take_subset_of_moved (hostMove_host op hb')
    rw [hostTurn_cons hh]
    rcases hostMove_busy_cases hop hb' with hf | ⟨a, v, rfl, hm⟩
    · exact ⟨hf.pending, hf.sameRegisters.trans ⟨_, _, _, _, _, rfl⟩, fun _ => hf.ovr, by simp [hh], hmoves⟩
    · refine ⟨by simp [hm], hm ▸ ⟨_, _, _, _, _, rfl⟩, fun hw => ?_, by simp [hh], hmoves⟩
      exact absurd (by simp [hh]) (hw a v)

/-- A step of a running command that is not its last: it comes one step nearer, and the host has its turn. -/
theorem step_delayed {p : Pending} (hp : s.pending = some p) (hl : 1 < p.left)
    (hreset : HostOp.hardReset ∉ s.host.take 1) :
    ∃ t, step s = .next t ∧ t.pending = some { p with left := p.left - 1 } ∧ Delayed 1 s t := by
  obtain ⟨hpending, hd⟩ := hostTurn_delayed (s := setPending { p with left := p.left - 1 } s) rfl hreset
  exact ⟨_, step_busy hp hl, hpending, (delayed_setPending _ s).trans hd⟩

/-- After n of its l steps, none of them its last, a command has l - n to go (R704). -/
theorem run_delayed {w : Word} {l : Nat} (n : Nat) {s : State} (hp : s.pending = some { word := w, left := l })
    (hn : n < l) (hreset : HostOp.hardReset ∉ s.host.take n) :
    ∃ t, Host.Core.run core n s = .next t ∧ t.pending = some { word := w, left := l - n } ∧ Delayed n s t := by
  induction n generalizing s l with
  | zero => exact ⟨s, rfl, hp, delayed_zero s⟩
  | succ n ih =>
    have hl : 1 < l := by omega
    have hfirst : HostOp.hardReset ∉ s.host.take 1 := fun h =>
      hreset (List.take_subset_take_left _ (Nat.le_add_left 1 n) h)
    obtain ⟨u, hstep, hu, hd⟩ := step_delayed hp hl hfirst
    obtain ⟨t, hrun, ht, hd'⟩ := ih hu (Nat.lt_sub_of_add_lt hn) fun h => hreset (Nat.add_comm 1 n ▸ hd.moves n h)
    rw [Nat.sub_sub, Nat.add_comm 1 n] at ht
    exact ⟨t, (run_succ n hstep).trans hrun, ht, Nat.add_comm 1 n ▸ hd.trans hd'⟩

end Delayed

/-- A run of one step more ends in the step of the state before it. -/
theorem run_succ_last {n : Nat} {s t : State} (h : Host.Core.run core n s = .next t) :
    Host.Core.run core (n + 1) s = step t := by
  induction n generalizing s with
  | zero =>
    obtain rfl : s = t := Host.Outcome.next.inj h
    obtain ⟨u, hu⟩ := stepAlwaysHasNextState.1 s
    rw [run_succ 0 hu, hu]
    rfl
  | succ n ih =>
    obtain ⟨u, hu⟩ := stepAlwaysHasNextState.1 s
    rw [run_succ n hu] at h
    rw [run_succ (n + 1) hu, ih h]

/-- The completion step of every word clears BUSY (10_state.md R106). -/
theorem runWord_pending {w : Word} {s t : State} (h : runWord w s = .next t) : t.pending = none := by
  rcases runWord_cases h with ⟨_, rfl⟩ | ⟨_, _, rfl⟩ | ⟨_, _, _, _, rfl⟩ <;> rfl

/-- Settles O55: after k of its steps the command has n + 1 - k to go, and the step with one to go completes it. -/
theorem latchedCommandCompletes : Obligations.LatchedCommandCompletes := by
  intro n w s hreset
  refine ⟨fun k hk => ?running, ?completed⟩
  case running =>
    obtain ⟨t, hrun, ht, _⟩ := run_delayed (s := setPending { word := w, left := n + 1 } s) k rfl (Nat.lt_succ_of_le hk)
      fun h => hreset (List.take_subset_take_left _ hk h)
    exact ⟨t, hrun, ht⟩
  case completed =>
    obtain ⟨u, hrun, hu, _⟩ := run_delayed n (s := setPending { word := w, left := n + 1 } s) rfl n.lt_succ_self hreset
    obtain ⟨t, ht⟩ := runWord_next w u
    refine ⟨t, (run_succ_last hrun).trans ((step_complete hu (by simp)).trans ht), ?_⟩
    rw [busy, runWord_pending ht]
    rfl

/-! ## Nothing depends on the number of steps (70_reset_and_hazards.md R710) -/

/-- No check of a command reads OVR, the pending command or the model's own fields. -/
theorem checksOf_sameRegisters (i : Instr) {s u : State} (h : SameRegisters u s) : checksOf i u = checksOf i s := by
  obtain ⟨_, _, _, _, _, rfl⟩ := h
  cases i <;> rfl

/-- No effect reads OVR, the pending command or the model's own fields. -/
theorem effectOf_sameRegisters (i : Instr) {s u : State} (h : SameRegisters u s) :
    SameRegisters (effectOf i u) (effectOf i s) := by
  refine ⟨(effectOf i u).pending, (effectOf i u).ovr, (effectOf i u).host, (effectOf i u).trace,
    (effectOf i u).draws, ?_⟩
  obtain ⟨_, _, _, _, _, rfl⟩ := h
  cases i <;> rfl

/-- An effect leaves OVR as it is or clears it, whatever else the state holds (10_state.md R110). -/
theorem effectOf_ovr_congr (i : Instr) {s u : State} (h : u.ovr = s.ovr) : (effectOf i u).ovr = (effectOf i s).ovr := by
  by_cases hi : i = .sreset ∨ i = .clrerr
  · rcases hi with rfl | rfl <;> rfl
  · obtain ⟨hsr, hclr⟩ := not_or.1 hi
    obtain ⟨_, _, _, hu⟩ := effectOf_errorFields u hsr hclr
    obtain ⟨_, _, _, hs⟩ := effectOf_errorFields s hsr hclr
    rw [hu, hs, h]

/-- The completion step reads neither OVR nor the pending command nor the model's own fields, and carries OVR on. -/
theorem runWord_sameRegisters (w : Word) {s u : State} (h : SameRegisters u s) :
    ∃ t v, runWord w u = .next t ∧ runWord w s = .next v ∧ SameRegisters t v ∧ (u.ovr = s.ovr → t.ovr = v.ovr) := by
  have hignored : SameRegisters (complete u) (complete s) := h.complete
  have hrejected (e : ErrorCode) (op : Byte) : SameRegisters (reject e op u) (reject e op s) :=
    (h.markError e op).complete
  cases hd : decode w with
  | ok i =>
    rw [runWord_ok hd, runWord_ok hd]
    exact exec_related (R := fun t v => SameRegisters t v ∧ (u.ovr = s.ovr → t.ovr = v.ovr)) h.err.symm
      (checksOf_sameRegisters i h).symm ⟨hignored, id⟩ (fun e => ⟨hrejected e _, id⟩)
      fun _ => ⟨(effectOf_sameRegisters i h).complete, effectOf_ovr_congr i⟩
  | error e =>
    rw [runWord_error hd, runWord_error hd, rejectWord, rejectWord, h.err]
    cases s.err with
    | true => exact ⟨_, _, rfl, rfl, hignored, id⟩
    | false => exact ⟨_, _, rfl, rfl, hrejected _ _, id⟩

/-- Settles O56: before the completion step the host changes OVR at most, and the completion step does not read it. -/
theorem resultIndependentOfLatency : Obligations.ResultIndependentOfLatency := by
  intro n w s hreset
  obtain ⟨u, hrun, hu, hd⟩ := run_delayed n (s := setPending { word := w, left := n + 1 } s) rfl n.lt_succ_self hreset
  rw [Nat.add_sub_cancel_left] at hu
  have hsame : SameRegisters u (loadWord w s) := hd.registers.trans ⟨_, _, _, _, _, rfl⟩
  obtain ⟨t, v, ht, hv, htv, hovr⟩ := runWord_sameRegisters w hsame
  have hpending : t.pending = v.pending := (runWord_pending ht).trans (runWord_pending hv).symm
  refine ⟨t, v, (run_succ_last hrun).trans ((step_complete hu le_rfl).trans ht), (step_loadWord w s).trans hv,
    htv.eq_of_pending hpending, fun hwrite => hovr (hd.ovr hwrite), fun hh => ?_⟩
  have hload : u = loadWord w s := by
    rw [hd.unmoved hh, hu]
    rfl
  rw [hload, hv] at ht
  exact (Host.Outcome.next.inj ht).symm

end Sys2Proof.Machine
